-- ==== Sys2Proof/Word.lean ====
section
/-! DEFINITION. The widths the manual uses: bytes, 32-bit words, 48-bit addresses, tags and counters. -/

namespace Sys2Proof

/-- One byte of a message's DATA. -/
abbrev Byte := BitVec 8

/-- A 32-bit register of the management aperture (R178). -/
abbrev Word := BitVec 32

/-- A 48-bit DTL byte address (R4). -/
abbrev Addr := BitVec 48

/-- A TAG as messages carry it, 0..255 (R4, R7). -/
abbrev Tag := BitVec 8

/-- A 32-bit saturating counter (00_scope.md, Conventions). -/
abbrev Counter := BitVec 32

end Sys2Proof
end

