-- ==== Sys2Proof/Config.lean ====
section
/-! DEFINITION. What the part fixes: the capacities and fixed values of the manual, and the free values it leaves open. -/

namespace Sys2Proof.Config

/-- Requests an ingress queue holds (R45); also the credits a link-up of an upstream port owes (R15). -/
abbrev ingressCapacity : Nat := 16

/-- Items an egress queue holds (R112). -/
abbrev egressCapacity : Nat := 32

/-- Parts a return queue holds (R127). -/
abbrev returnCapacity : Nat := 576

/-- The return load above which no CR is eligible (R126). -/
abbrev returnRoom : Nat := 512

/-- Records the capture buffer holds (R157). -/
abbrev captureCapacity : Nat := 256

/-- The greatest credit count, upstream and downstream, and the greatest COUNT of a CR (R8, R16). -/
abbrev creditLimit : Nat := 64

/-- The greatest value of a reserve and of the sum of both (R71). -/
abbrev reserveLimit : Nat := 64

/-- The ID register: vendor 0xD5C, part 0x824, revision 0x01 (R182, R194). -/
def idWord : Word := 0xD5C82401#32

/-- The power-on base of the aperture for MSEL 0 (R42). -/
def strapBase : Addr := 0xFFFFFF000000#48

/-- FREE VALUE (logs 9, 10, 21). Where one event hands the capture unit the requests of both upstream ports and no rule
of the manual orders the two handings, whether the one of U1 comes first. The argument is the counter of free values
used so far. It has no body: no statement can rest on a value of it. -/
opaque u1HandedFirst : Nat → Bool

end Sys2Proof.Config
end

