-- ==== Sys2Proof/Syntax.lean ====
section
/-! DEFINITION. Ports, messages and management registers, and the commands the block takes: one constructor of `Instr`
for each row of spec/opcode_table.json. -/

namespace Sys2Proof

/-- An upstream port; it faces a requester (codes U0 0, U1 1, section 11.2). -/
inductive UPort where
  | u0 | u1
  deriving DecidableEq, Repr

/-- A downstream port; it faces a target (codes D0 0 to D3 3, section 11.2). -/
inductive DPort where
  | d0 | d1 | d2 | d3
  deriving DecidableEq, Repr

/-- One of the six DTL ports. -/
inductive Port where
  | up (x : UPort)
  | down (n : DPort)
  deriving DecidableEq, Repr

/-- The request kinds (section 1.2). -/
inductive ReqKind where
  | rd | wr | pw
  deriving DecidableEq, Repr

/-- The seven STATUS values (R12). -/
inductive Status where
  | ok | unmapped | denied | unavailable | timeout | malformed | targetError
  deriving DecidableEq, Repr

/-- A RD, WR or PW with the field ranges its message can carry: LEN is the 9-bit field, 0..511 (R4 to R6, section 11.1). -/
structure Request where
  kind : ReqKind
  tag  : Tag
  addr : Addr
  len  : BitVec 9
  data : List Byte
  deriving DecidableEq, Repr

/-- A response part (R7). -/
structure Part where
  tag    : Tag
  status : Status
  last   : Bool
  data   : List Byte
  deriving DecidableEq, Repr

/-- A DTL message (section 1.2). COUNT of a CR is the 7-bit field of section 11.1. -/
inductive Message where
  | request (r : Request)
  | rsp (p : Part)
  | cr (count : BitVec 7)
  deriving DecidableEq, Repr

/-- A usable message of a kind that does not travel in that direction on its port (R20). -/
inductive Misdirected where
  /-- An RSP arriving on an upstream port. -/
  | rspUpstream (x : UPort) (p : Part)
  /-- A RD, WR or PW arriving on a downstream port. -/
  | requestDownstream (n : DPort) (r : Request)
  deriving DecidableEq, Repr

/-- The registers of an upstream port's block (section 11.5). -/
inductive UpReg where
  | status | defaultAction | reserve | ingressOccupancy | returnOccupancy | returnLoad | pendingCredits | credits
  | protocol | forwarded | zeroFilled | mgmtDone | malformed | denied | unmapped | unavailable | pwDiscarded
  | damaged | linkDowns | linkUps
  deriving DecidableEq, Repr

/-- The registers of a downstream port's block (section 11.5). -/
inductive DownReg where
  | status | orphanCount | rspTimeout | orphanLimit | degOn | degOff | fenceLimit | egressOccupancy | credits | admission
  | stray | nonconforming | timeouts | late | protocol | requestsSent | pwDropped | crIgnored
  | damaged | linkDowns | linkUps | fences
  deriving DecidableEq, Repr

/-- The two match units (R147). -/
inductive MatchName where
  | a | b
  deriving DecidableEq, Repr

/-- The registers of a match unit (section 11.5). -/
inductive MatchReg where
  | sets | window | addrValueLo | addrValueHi | addrCareLo | addrCareHi
  deriving DecidableEq, Repr

/-- The seven configurable words of a window record (section 11.3). -/
inductive WindowWord where
  | baseLo | baseHi | maskLo | maskHi | xbaseLo | xbaseHi | config
  deriving DecidableEq, Repr

/-- The nine words of an active entry view (section 11.3). -/
inductive ViewWord where
  | configured (w : WindowWord)
  | hits
  | commitStatus
  deriving DecidableEq, Repr

/-- The registers of the management address map (section 11.5). -/
inductive Reg where
  | id | strap | time | mgmtPermit | mgmtBaseLo | mgmtBaseHi | command | commandResult
  | cause | enable | active | clear | noticeAck | noticeStatus | noticeAddrLo | noticeAddrHi | noticePort | noticeRepeat
  | noticesSent | noticesCancelled | repeats
  | up (x : UPort) (r : UpReg)
  | down (n : DPort) (r : DownReg)
  | ottSummary
  | matchUnit (u : MatchName) (r : MatchReg)
  | combine | trigger | capMgmt | capDefault | postCount | threshold | mode
  | captureStatus | recordNumber | captureDropped | captureOverwritten | release
  | head (w : Fin 8)
  | staging (i : Fin 16) (w : WindowWord)
  | control (i : Fin 16)
  | activeView (i : Fin 16) (w : ViewWord)
  | ottView (t : Fin 128) (w : Fin 4)
  deriving DecidableEq, Repr

/-- The commands of the block: one constructor per row of spec/opcode_table.json, with the row's operands. -/
inductive Instr where
  /-- POWER_ON_RESET (R190): RESET_N is released; MSEL is sampled. -/
  | powerOnReset (msel : BitVec 4)
  /-- UPSTREAM_LINK_UP (R67, R144). -/
  | upstreamLinkUp (x : UPort)
  /-- UPSTREAM_LINK_DOWN (R66, R90, R144). -/
  | upstreamLinkDown (x : UPort)
  /-- DOWNSTREAM_LINK_UP (R129). -/
  | downstreamLinkUp (n : DPort)
  /-- DOWNSTREAM_LINK_DOWN (R130): reported by the physical layer. -/
  | downstreamLinkDown (n : DPort)
  /-- REQUEST_ARRIVAL (R46). -/
  | requestArrival (x : UPort) (r : Request)
  /-- UPSTREAM_CR_ARRIVAL (R16). -/
  | upstreamCrArrival (x : UPort) (count : BitVec 7)
  /-- PART_ARRIVAL (R78). -/
  | partArrival (n : DPort) (p : Part)
  /-- DOWNSTREAM_CR_ARRIVAL (R117). -/
  | downstreamCrArrival (n : DPort) (count : BitVec 7)
  /-- DAMAGED_MESSAGE_ARRIVAL (R19): reported damaged (`none`), or delivered good with these bytes, which R18 finds unusable. -/
  | damagedMessageArrival (p : Port) (delivered : Option (List Byte))
  /-- MISDIRECTED_MESSAGE_ARRIVAL (R20). -/
  | misdirectedMessageArrival (m : Misdirected)
  /-- DISPATCH (R47): of the head of Ux. -/
  | dispatch (x : UPort)
  /-- FORWARDING (R60): of the head of Ux. -/
  | forwarding (x : UPort)
  /-- ISSUE (R115): the transmitter of Dn is ready. -/
  | issue (n : DPort)
  /-- CR_TRANSMIT (R122): the transmitter of Ux is ready and takes a CR. -/
  | crTransmit (x : UPort)
  /-- RESPONSE_PART_TRANSMIT (R123): the transmitter of Ux is ready and takes a part. -/
  | responsePartTransmit (x : UPort)
  /-- NOTICE_TRANSMIT (R124, R171): the transmitter of Ux is ready and the notice is chosen. -/
  | noticeTransmit (x : UPort)
  /-- EXPIRY (R98): of OTT entry t. -/
  | expiry (t : Fin 128)
  /-- REPEAT_EXPIRY (R173). -/
  | repeatExpiry
  /-- SOFT_RESET (R187): the write at the head of Ux. -/
  | softReset (x : UPort)
  /-- FENCE_COMMAND (R140): the write at the head of Ux, with its port argument. -/
  | fenceCommand (x : UPort) (arg : BitVec 8)
  /-- UNFENCE (R141). -/
  | unfence (x : UPort) (arg : BitVec 8)
  /-- RETRAIN (R142). -/
  | retrain (x : UPort) (arg : BitVec 8)
  /-- CLEAR_COUNTERS (R186). -/
  | clearCounters (x : UPort)
  /-- CAPTURE_ARM (R162). -/
  | captureArm (x : UPort)
  /-- CAPTURE_STOP (R162). -/
  | captureStop (x : UPort)
  /-- CAPTURE_CLEAR (R162). -/
  | captureClear (x : UPort)
  /-- UNKNOWN_COMMAND (R184): a COMMAND write whose code names no command. -/
  | unknownCommand (x : UPort) (code : BitVec 8)
  /-- COMMIT (R34): of window entry i. -/
  | commit (x : UPort) (i : Fin 16)
  /-- DISABLE (R37): of window entry i. -/
  | disable (x : UPort) (i : Fin 16)
  /-- MGMT_BASE_LO_WRITE (R43). -/
  | mgmtBaseLoWrite (x : UPort) (v : Word)
  /-- RESERVE_WRITE (R71): of the reserve of port p. -/
  | reserveWrite (x : UPort) (p : UPort) (v : Word)
  /-- ORPHAN_LIMIT_WRITE (R105): of the limit of Dn. -/
  | orphanLimitWrite (x : UPort) (n : DPort) (v : Word)
  /-- ENABLE_WRITE (R167). -/
  | enableWrite (x : UPort) (v : Word)
  /-- CLEAR_WRITE (R168). -/
  | clearWrite (x : UPort) (v : Word)
  /-- NOTICE_ACK (R172). -/
  | noticeAck (x : UPort) (v : Word)
  /-- CAPTURE_RELEASE (R161); the value written has no effect. -/
  | captureRelease (x : UPort)
  /-- SETTING_WRITE (R180): of any other setting. -/
  | settingWrite (x : UPort) (r : Reg) (v : Word)
  /-- TIME_ADVANCE (R183). -/
  | timeAdvance
  /-- RESET_N_ASSERTED (R190). -/
  | resetNAsserted
  deriving DecidableEq, Repr

end Sys2Proof
end

