-- ==== Sys2Proof/Decode.lean ====
section
/-! DEFINITION. The command that a word spells by the bits of spec/opcode_table.json. No row of the table gives bits
(98_reader.md: n_rows_with_fixed 0, n_rows_with_fields 0), so no word spells a command (log 3). -/

namespace Sys2Proof

/-- One row of the table that gives bits: its width, its mask, its pattern, and its command. -/
structure TableRow where
  nbits   : Nat
  mask    : Nat
  pattern : Nat
  command : Instr
  deriving DecidableEq, Repr

/-- The rows of spec/opcode_table.json that give bits: none. -/
def tableRows : List TableRow := []

/-- The command that a word of nbits bits spells. -/
def decodeTableWord (nbits w : Nat) : Option Instr :=
  (tableRows.find? fun r => r.nbits == nbits && w &&& r.mask == r.pattern).map TableRow.command

end Sys2Proof
end

