-- ==== Sys2Proof/Machine/State.lean ====
section
/-! DEFINITION. The state of the bridge as plain data, every piece the manual names, and its power-on values. -/

namespace Sys2Proof.Machine

/-- One item for each upstream port. -/
structure PerUp (α : Type) where
  u0 : α
  u1 : α
  deriving DecidableEq, Repr

/-- One item for each downstream port. -/
structure PerDown (α : Type) where
  d0 : α
  d1 : α
  d2 : α
  d3 : α
  deriving DecidableEq, Repr

/-- Link state of a port (R1, R129, R144). -/
inductive LinkState where
  | down | up
  deriving DecidableEq, Repr

/-- The kinds that take an OTT entry (R69). -/
inductive AnsweredKind where
  | rd | wr
  deriving DecidableEq, Repr

/-- Capture mode of a window, and of CAP_MGMT and CAP_DEFAULT (R29, R148). -/
inductive CapMode where
  | off | filtered | all
  deriving DecidableEq, Repr

/-- Kind of a window's TARGET (R21). -/
inductive TargetKind where
  | port | spread | refuse
  deriving DecidableEq, Repr

/-- The eight configurable fields of a window record, TARGET held in its parts (R21). A set holds one bit for each member:
SOURCES bit 0 U0; the spread set bit 0 D0; PERMIT bit 0 RD, 1 WR, 2 PW. -/
structure WindowConfig where
  valid      : Bool
  base       : Addr
  mask       : Addr
  sources    : BitVec 2
  targetKind : TargetKind
  portNumber : BitVec 3
  spreadSet  : BitVec 4
  select     : BitVec 6
  xbase      : Addr
  permit     : BitVec 3
  capture    : CapMode
  deriving DecidableEq, Repr

/-- COMMIT_STATUS (R39). -/
inductive CommitStatus where
  | none | ok | maskShape | baseAlign | xbaseAlign | noSource | badTarget | badSelect | noPermit
  deriving DecidableEq, Repr

/-- One index of the window table (R21). -/
structure WindowEntry where
  active  : WindowConfig
  staging : WindowConfig
  hits    : Counter
  status  : CommitStatus
  deriving DecidableEq, Repr

/-- The decode result a waiting head keeps (R28, R61): window index, egress port, XADDR and capture mode. -/
structure Decoded where
  window  : Fin 16
  egress  : DPort
  xaddr   : Addr
  capture : CapMode
  deriving DecidableEq, Repr

/-- DEFAULT_ACTION (R57). -/
inductive DefaultAction where
  | unmappedError | zeroFill
  deriving DecidableEq, Repr

/-- The turn record of an upstream transmit arbiter (R121). -/
inductive Turn where
  | returned | notice
  deriving DecidableEq, Repr

/-- The counters of an upstream port (R64, R145). -/
structure UpCounters where
  protocol    : Counter
  forwarded   : Counter
  zeroFilled  : Counter
  mgmtDone    : Counter
  malformed   : Counter
  denied      : Counter
  unmapped    : Counter
  unavailable : Counter
  pwDiscarded : Counter
  damaged     : Counter
  linkDowns   : Counter
  linkUps     : Counter
  deriving DecidableEq, Repr

/-- An upstream port. `waiting` is the decode result of a head that waits for its resources (R61). -/
structure Upstream where
  link           : LinkState
  ingress        : List Request
  waiting        : Option Decoded
  returnQueue    : List Part
  pendingCredits : BitVec 32
  credits        : Nat
  turn           : Turn
  defaultAction  : DefaultAction
  reserve        : Nat
  counters       : UpCounters
  deriving DecidableEq, Repr

/-- An item of an egress queue (R112): it stands for a PENDING entry, or holds a PW itself. -/
inductive EgressItem where
  | entry (t : Fin 128) (data : List Byte)
  | posted (xaddr : Addr) (len : BitVec 9) (data : List Byte)
  deriving DecidableEq, Repr

/-- FENCE_REASON (R132). -/
inductive FenceReason where
  | none | management | damage | orphans | credit
  deriving DecidableEq, Repr

/-- The counters of a downstream port (R20, R95, R102, R103, R120, R145). -/
structure DownCounters where
  stray         : Counter
  nonconforming : Counter
  timeouts      : Counter
  late          : Counter
  protocol      : Counter
  requestsSent  : Counter
  pwDropped     : Counter
  crIgnored     : Counter
  damaged       : Counter
  linkDowns     : Counter
  linkUps       : Counter
  fences        : Counter
  deriving DecidableEq, Repr

/-- A downstream port with its port health unit and its egress queue. -/
structure Downstream where
  link        : LinkState
  fenced      : Bool
  reason      : FenceReason
  retrained   : Bool
  degraded    : Bool
  badRun      : BitVec 8
  goodRun     : BitVec 8
  credits     : Nat
  egress      : List EgressItem
  admission   : UPort
  rspTimeout  : Nat
  orphanLimit : Nat
  degOn       : Nat
  degOff      : Nat
  fenceLimit  : Nat
  counters    : DownCounters
  deriving DecidableEq, Repr

/-- STATE of an OTT entry (R69). -/
inductive EntryState where
  | free | pending | issued | streaming | orphan
  deriving DecidableEq, Repr

/-- An entry of the Outstanding Transaction Table (R69). -/
structure OttEntry where
  state        : EntryState
  src          : UPort
  srcTag       : Tag
  kind         : AnsweredKind
  egress       : DPort
  xaddr        : Addr
  len          : Nat
  received     : Nat
  deadline     : Option Word
  window       : Fin 16
  cap          : Bool
  dispatchTime : Word
  deriving DecidableEq, Repr

/-- A match unit of the capture unit (R147). KIND_SET bit 0 RD, 1 WR, 2 PW; PORT_SET bit 0 U0. -/
structure MatchUnit where
  kindSet     : BitVec 3
  portSet     : BitVec 2
  windowValue : BitVec 5
  windowCare  : BitVec 5
  addrValue   : Addr
  addrCare    : Addr
  deriving DecidableEq, Repr

/-- COMBINE (R148). -/
inductive Combine where
  | aOnly | either | both | aNotB
  deriving DecidableEq, Repr

/-- TRIGGER (R152). -/
inductive Trigger where
  | none | matchA | matchB | anyError
  deriving DecidableEq, Repr

/-- MODE of the capture buffer (R163). -/
inductive OverflowMode where
  | stop | ring
  deriving DecidableEq, Repr

/-- The capture states (R151). -/
inductive CaptureState where
  | off | armed | triggered | frozen
  deriving DecidableEq, Repr

/-- How a head was resolved (R48). -/
inductive Disposition where
  | forwarded | zeroFilled | mgmtDone | unmapped | denied | unavailable | malformed | rejected | dropped
  deriving DecidableEq, Repr

/-- What a capture record holds beside its common fields (R155, R156). An absent field is `none`. -/
inductive RecordBody where
  | request (port : UPort) (tag : Tag) (kind : ReqKind) (addr : Addr) (len : BitVec 9) (window : BitVec 5)
      (disposition : Disposition) (xaddr : Option Addr) (egress : Option DPort) (ott : Option (Fin 128))
  | completion (port : UPort) (tag : Tag) (ott : Fin 128) (status : Status) (bytes : Nat) (latency : Word)
  deriving DecidableEq, Repr

/-- A capture record (R155 to R157). -/
structure Record where
  rseq    : BitVec 16
  trigger : Bool
  time    : Word
  body    : RecordBody
  deriving DecidableEq, Repr

/-- The capture unit (R147 to R165). -/
structure Capture where
  state       : CaptureState
  buffer      : List Record
  nextRseq    : BitVec 16
  postRemain  : Nat
  dropped     : Counter
  overwritten : Counter
  unitA       : MatchUnit
  unitB       : MatchUnit
  combine     : Combine
  trigger     : Trigger
  capMgmt     : CapMode
  capDefault  : CapMode
  postCount   : Nat
  threshold   : Nat
  mode        : OverflowMode
  deriving DecidableEq, Repr

/-- The notice states (R169). -/
inductive NoticeState where
  | idle | queued | sent
  deriving DecidableEq, Repr

/-- The notice unit (R166 to R177). A set of causes holds one bit for each cause, in the positions of section 11.2. The repeat
deadline is the moment of TIME at which the notice repeats, where one stands (R171). -/
structure NoticeUnit where
  cause          : BitVec 25
  enable         : BitVec 25
  state          : NoticeState
  repeatMark     : Bool
  repeatDeadline : Option Word
  seq            : Word
  addr           : Addr
  port           : UPort
  repeatMs       : Nat
  sent           : Counter
  cancelled      : Counter
  repeats        : Counter
  deriving DecidableEq, Repr

/-- OUTCOME of COMMAND_RESULT (R185). -/
inductive CommandOutcome where
  | none | done | unchanged | unknown | badPort | notRetrained
  deriving DecidableEq, Repr

/-- COMMAND_RESULT (R185). -/
structure CommandResult where
  code    : BitVec 8
  port    : BitVec 8
  outcome : CommandOutcome
  count   : BitVec 8
  deriving DecidableEq, Repr

/-- What the bridge hands to a physical layer (R2, R131). -/
inductive Output where
  /-- A whole message handed to the transmitter of a port. -/
  | message (p : Port) (m : Message)
  /-- The request to re-establish a link that the bridge forced DOWN. -/
  | reestablish (n : DPort)
  deriving DecidableEq, Repr

/-- The state of the bridge. `held` says RESET_N is asserted. `choices` (free values used, log 21), `outputs` (handed to
the physical layers, newest first, log 13) and `pending` (the commands waiting, log 3) are the model's own. -/
structure State where
  held         : Bool
  time         : Word
  strap        : BitVec 4
  mgmtBase     : Addr
  mgmtBaseHi   : BitVec 16
  mgmtPermit   : BitVec 2
  command      : CommandResult
  up           : PerUp Upstream
  down         : PerDown Downstream
  windows      : Vector WindowEntry 16
  ott          : Vector OttEntry 128
  lastGrant    : UPort
  capture      : Capture
  notice       : NoticeUnit
  choices      : Nat
  outputs      : List Output
  pending      : List Instr
  deriving DecidableEq, Repr

/-- The block has no fault: an error is a status, a counter and a cause, all of them effects on State. No constructor. -/
inductive Fault where
  deriving DecidableEq, Repr

/-- Why a command has no meaning. -/
inductive Refusal where
  /-- A row of the table that `exec` gives no meaning; raised by `exec` alone; safe (the run stops). No arm raises it. -/
  | notModelled (mnemonic : String)
  deriving DecidableEq, Repr

/-- The outcome of a command. -/
abbrev Result := Host.Outcome State Fault Refusal

/-! ### Power-on values, each from the rule its chapter gives -/

/-- All counters zero (R64, R145, R186). -/
def UpCounters.zero : UpCounters where
  protocol := 0
  forwarded := 0
  zeroFilled := 0
  mgmtDone := 0
  malformed := 0
  denied := 0
  unmapped := 0
  unavailable := 0
  pwDiscarded := 0
  damaged := 0
  linkDowns := 0
  linkUps := 0

/-- All counters zero (R95, R102, R103, R120, R145, R186). -/
def DownCounters.zero : DownCounters where
  stray := 0
  nonconforming := 0
  timeouts := 0
  late := 0
  protocol := 0
  requestsSent := 0
  pwDropped := 0
  crIgnored := 0
  damaged := 0
  linkDowns := 0
  linkUps := 0
  fences := 0

/-- The zero window record (R40). -/
def WindowConfig.zero : WindowConfig where
  valid := false
  base := 0
  mask := 0
  sources := 0
  targetKind := .port
  portNumber := 0
  spreadSet := 0
  select := 0
  xbase := 0
  permit := 0
  capture := .off

/-- A window index after either reset (R40). -/
def WindowEntry.zero : WindowEntry where
  active := WindowConfig.zero
  staging := WindowConfig.zero
  hits := 0
  status := .none

/-- An entry after either reset (R70). -/
def OttEntry.zero : OttEntry where
  state := .free
  src := .u0
  srcTag := 0
  kind := .rd
  egress := .d0
  xaddr := 0
  len := 0
  received := 0
  deadline := none
  window := 0
  cap := false
  dispatchTime := 0

/-- An upstream port after power-on reset (R15, R16, R45, R57, R71, R121, R127, R144). -/
def Upstream.powerOn : Upstream where
  link := .down
  ingress := []
  waiting := none
  returnQueue := []
  pendingCredits := 0
  credits := 0
  turn := .notice
  defaultAction := .unmappedError
  reserve := 8
  counters := UpCounters.zero

/-- A downstream port after power-on reset (R96, R105, R112, R113, R116, R129, R132, R134, R139, R146). -/
def Downstream.powerOn : Downstream where
  link := .down
  fenced := false
  reason := .none
  retrained := false
  degraded := false
  badRun := 0
  goodRun := 0
  credits := 0
  egress := []
  admission := .u1
  rspTimeout := 1000
  orphanLimit := 8
  degOn := 2
  degOff := 16
  fenceLimit := 8
  counters := DownCounters.zero

/-- A match unit after power-on reset (R163). -/
def MatchUnit.powerOn : MatchUnit where
  kindSet := 0
  portSet := 0
  windowValue := 0
  windowCare := 0
  addrValue := 0
  addrCare := 0

/-- The capture unit after power-on reset (R163, R165). -/
def Capture.powerOn : Capture where
  state := .off
  buffer := []
  nextRseq := 0
  postRemain := 0
  dropped := 0
  overwritten := 0
  unitA := MatchUnit.powerOn
  unitB := MatchUnit.powerOn
  combine := .aOnly
  trigger := .none
  capMgmt := .off
  capDefault := .off
  postCount := 32
  threshold := 128
  mode := .stop

/-- The notice unit after power-on reset (R177). -/
def NoticeUnit.powerOn : NoticeUnit where
  cause := 0
  enable := 0
  state := .idle
  repeatMark := false
  repeatDeadline := none
  seq := 0
  addr := 0
  port := .u0
  repeatMs := 0
  sent := 0
  cancelled := 0
  repeats := 0

/-- The state at the release of RESET_N with this MSEL on the strap pins (R42, R190). -/
def State.powerOn (msel : BitVec 4) : State where
  held := false
  time := 0
  strap := msel
  mgmtBase := Config.strapBase + (msel.setWidth 48 <<< 16)
  mgmtBaseHi := 0xFFFF
  mgmtPermit := 0b01
  command :=
    { code := 0
      port := 0
      outcome := .none
      count := 0 }
  up := ⟨Upstream.powerOn, Upstream.powerOn⟩
  down := ⟨Downstream.powerOn, Downstream.powerOn, Downstream.powerOn, Downstream.powerOn⟩
  windows := Vector.replicate 16 WindowEntry.zero
  ott := Vector.replicate 128 OttEntry.zero
  lastGrant := .u1
  capture := Capture.powerOn
  notice := NoticeUnit.powerOn
  choices := 0
  outputs := []
  pending := []

/-- DESIGN CHOICE (log 1): the machine right after a release of RESET_N at which the strap pins read 0. -/
def State.reset : State := State.powerOn 0

end Sys2Proof.Machine
end

