-- ==== Sys2Proof/Machine/Operands.lean ====
section
/-! DEFINITION. What commands and messages are made of, without the machine's state: per-port access, field codes, the
length and block rule, the layout of messages (section 11.1), the structural checks (R18, R191) and the management
address map (section 11.5). -/

namespace Sys2Proof

/-! ### Ports -/

/-- The other upstream port. -/
def UPort.other : UPort → UPort
  | .u0 => .u1
  | .u1 => .u0

/-- The code of an upstream port, and its position in a set of ports (section 11.2, R192). -/
def UPort.code : UPort → Nat
  | .u0 => 0
  | .u1 => 1

/-- The upstream port of a code, where it names one. -/
def UPort.ofCode : Nat → Option UPort
  | 0 => some .u0
  | 1 => some .u1
  | _ => none

/-- The code of a downstream port (section 11.2). -/
def DPort.code : DPort → Nat
  | .d0 => 0
  | .d1 => 1
  | .d2 => 2
  | .d3 => 3

/-- The downstream port of a code; 4 and above name none (R143). -/
def DPort.ofCode : Nat → Option DPort
  | 0 => some .d0
  | 1 => some .d1
  | 2 => some .d2
  | 3 => some .d3
  | _ => none

/-- The downstream ports in ascending number. -/
def DPort.all : List DPort := [.d0, .d1, .d2, .d3]

namespace Machine

/-- The item of port x. -/
def PerUp.get {α : Type} (p : PerUp α) : UPort → α
  | .u0 => p.u0
  | .u1 => p.u1

/-- Change the item of port x. -/
def PerUp.modify {α : Type} (p : PerUp α) (x : UPort) (f : α → α) : PerUp α :=
  match x with
  | .u0 => { p with u0 := f p.u0 }
  | .u1 => { p with u1 := f p.u1 }

/-- Change the items of both ports. -/
def PerUp.map {α β : Type} (f : α → β) (p : PerUp α) : PerUp β := ⟨f p.u0, f p.u1⟩

/-- The item of port Dn. -/
def PerDown.get {α : Type} (p : PerDown α) : DPort → α
  | .d0 => p.d0
  | .d1 => p.d1
  | .d2 => p.d2
  | .d3 => p.d3

/-- Change the item of port Dn. -/
def PerDown.modify {α : Type} (p : PerDown α) (n : DPort) (f : α → α) : PerDown α :=
  match n with
  | .d0 => { p with d0 := f p.d0 }
  | .d1 => { p with d1 := f p.d1 }
  | .d2 => { p with d2 := f p.d2 }
  | .d3 => { p with d3 := f p.d3 }

/-- Change the items of all four ports. -/
def PerDown.map {α β : Type} (f : α → β) (p : PerDown α) : PerDown β := ⟨f p.d0, f p.d1, f p.d2, f p.d3⟩

end Machine

/-! ### Numbers -/

/-- Add k to a saturating value (00_scope.md, Conventions): past its greatest value it stays there. -/
def satAdd {w : Nat} (c : BitVec w) (k : Nat) : BitVec w :=
  if c.toNat + k < 2 ^ w then BitVec.ofNat w (c.toNat + k) else BitVec.allOnes w

/-- Increment a saturating value. -/
def satInc {w : Nat} (c : BitVec w) : BitVec w := satAdd c 1

/-- The low and the high word of a 48-bit value (chapter 11): bits 31 to 0; bits 47 to 32 in the lower half. -/
def addrLo (a : Addr) : Word := a.setWidth 32

/-- The high word of a 48-bit value. -/
def addrHi (a : Addr) : Word := (a >>> 32).setWidth 32

/-- A 48-bit value with bits 31 to 0 replaced. -/
def withLo (a : Addr) (w : Word) : Addr := (a >>> 32 <<< 32) ||| w.setWidth 48

/-- A 48-bit value with bits 47 to 32 replaced; the upper 16 bits of the written word are discarded (R31, R163, R175). -/
def withHi (a : Addr) (w : Word) : Addr := (w.setWidth 48 <<< 32) ||| (a.setWidth 32).setWidth 48

/-! ### Requests and answers -/

/-- The kind as an OTT entry holds it; a PW takes no entry (R69). -/
def ReqKind.answered : ReqKind → Option Machine.AnsweredKind
  | .rd => some .rd
  | .wr => some .wr
  | .pw => none

/-- The position of a kind in KIND_SET and PERMIT, and its code in capture records (sections 11.2, 11.3, 11.5). -/
def ReqKind.code : ReqKind → Nat
  | .rd => 0
  | .wr => 1
  | .pw => 2

/-- The length and block rule (R9). -/
def Request.wellFormed (r : Request) : Bool :=
  1 ≤ r.len.toNat && r.len.toNat ≤ 256 && r.addr.toNat % 256 + r.len.toNat ≤ 256

/-- A final part without data (R11). -/
def Part.final (tag : Tag) (status : Status) : Part where
  tag := tag
  status := status
  last := true
  data := []

/-- The zero-fill answer to a RD of LEN bytes: ceil(LEN / 64) OK parts, all but the last of 64 bytes (R10, R56). -/
def zeroParts (tag : Tag) (len : Nat) : List Part :=
  let full := (len - 1) / 64
  let part (last : Bool) (bytes : Nat) : Part :=
    { tag := tag
      status := .ok
      last := last
      data := List.replicate bytes 0 }
  List.replicate full (part false 64) ++ [part true (len - 64 * full)]

/-! ### Layout of messages (section 11.1) -/

/-- STATUS codes. -/
def Status.code : Status → Nat
  | .ok => 0
  | .unmapped => 1
  | .denied => 2
  | .unavailable => 3
  | .timeout => 4
  | .malformed => 5
  | .targetError => 6

/-- The status of a code; 7 is an unknown status (R191). -/
def Status.ofCode : Nat → Option Status
  | 0 => some .ok
  | 1 => some .unmapped
  | 2 => some .denied
  | 3 => some .unavailable
  | 4 => some .timeout
  | 5 => some .malformed
  | 6 => some .targetError
  | _ => none

/-- KIND codes of the request kinds. -/
def ReqKind.messageCode : ReqKind → Nat
  | .rd => 1
  | .wr => 2
  | .pw => 3

/-- Little-endian bytes of a word: byte i holds bits 8i + 7 to 8i (R179). -/
def wordBytes (w : Word) : List Byte :=
  [w.extractLsb' 0 8, w.extractLsb' 8 8, w.extractLsb' 16 8, w.extractLsb' 24 8]

/-- The word of four bytes, byte 0 first. -/
def wordOf (b0 b1 b2 b3 : Byte) : Word := b3 ++ b2 ++ b1 ++ b0

/-- The word a management write carries in its DATA (R179); R52 lets only LEN 4 reach a register. -/
def wordOfData : List Byte → Word
  | [b0, b1, b2, b3] => wordOf b0 b1 b2 b3
  | _ => 0

/-- The field of a word that starts at bit `lo`. -/
def bitsAt {n : Nat} (lo : Nat) (v : BitVec n) : Word := v.setWidth 32 <<< lo

/-- A number as a field of a word that starts at bit `lo`. -/
def natAt (lo v : Nat) : Word := BitVec.ofNat 32 v <<< lo

/-- A flag as bit `lo` of a word. -/
def flagAt (lo : Nat) (b : Bool) : Word := natAt lo b.toNat

/-- The bytes of a message, zero in every bit outside its fields (R191). -/
def Message.toBytes : Message → List Byte
  | .request r =>
    wordBytes (natAt 0 r.kind.messageCode ||| bitsAt 8 r.tag ||| bitsAt 16 r.len)
      ++ wordBytes (addrLo r.addr) ++ wordBytes (addrHi r.addr) ++ r.data
  | .rsp p => wordBytes (natAt 0 4 ||| bitsAt 8 p.tag ||| natAt 16 p.status.code ||| flagAt 19 p.last) ++ p.data
  | .cr count => wordBytes (natAt 0 5 ||| bitsAt 16 count)

/-- The structural checks of R18 on the fields of a message. -/
def Message.usable : Message → Bool
  | .request r => r.data.length == (match r.kind with | .rd => 0 | .wr => r.len.toNat | .pw => r.len.toNat)
  | .rsp p => p.data.length ≤ 64
  | .cr count => 1 ≤ count.toNat && count.toNat ≤ Config.creditLimit

/-- A request from its header word and the bytes after it: two address words, then DATA (section 11.1). -/
def requestOf (kind : ReqKind) (header : Word) : List Byte → Option Message
  | a0 :: a1 :: a2 :: a3 :: a4 :: a5 :: a6 :: a7 :: data =>
    some (.request
      { kind := kind
        tag := header.extractLsb' 8 8
        addr := withHi (withLo 0 (wordOf a0 a1 a2 a3)) (wordOf a4 a5 a6 a7)
        len := header.extractLsb' 16 9
        data := data })
  | _ => none

/-- The fields of a delivered message by the layout of section 11.1: none for an unknown kind, an unknown status, or
bytes too few for the kind's fixed part or, for a CR, past it (R191). -/
def Message.fields : List Byte → Option Message
  | b0 :: b1 :: b2 :: b3 :: rest =>
    let header := wordOf b0 b1 b2 b3
    match (header.extractLsb' 0 4).toNat with
    | 1 => requestOf .rd header rest
    | 2 => requestOf .wr header rest
    | 3 => requestOf .pw header rest
    | 4 =>
      match Status.ofCode (header.extractLsb' 16 3).toNat with
      | some status =>
        some (.rsp
          { tag := header.extractLsb' 8 8
            status := status
            last := header.getLsbD 19
            data := rest })
      | none => none
    | 5 => if rest.isEmpty then some (.cr (header.extractLsb' 16 7)) else none
    | _ => none
  | _ => none

/-- The message that delivered bytes hold, or none where they are structurally unusable (R18, R191). -/
def Message.ofBytes (bytes : List Byte) : Option Message := (Message.fields bytes).filter Message.usable

namespace Machine

/-! ### Codes of section 11.2 -/

/-- STATE of an OTT entry. -/
def EntryState.code : EntryState → Nat
  | .free => 0
  | .pending => 1
  | .issued => 2
  | .streaming => 3
  | .orphan => 4

/-- KIND in the OTT view. -/
def AnsweredKind.code : AnsweredKind → Nat
  | .rd => 0
  | .wr => 1

/-- DISPOSITION. -/
def Disposition.code : Disposition → Nat
  | .forwarded => 0
  | .zeroFilled => 1
  | .mgmtDone => 2
  | .unmapped => 3
  | .denied => 4
  | .unavailable => 5
  | .malformed => 6
  | .rejected => 7
  | .dropped => 8

/-- FENCE_REASON. -/
def FenceReason.code : FenceReason → Nat
  | .none => 0
  | .management => 1
  | .damage => 2
  | .orphans => 3
  | .credit => 4

/-- COMMIT_STATUS. -/
def CommitStatus.code : CommitStatus → Nat
  | .none => 0
  | .ok => 1
  | .maskShape => 2
  | .baseAlign => 3
  | .xbaseAlign => 4
  | .noSource => 5
  | .badTarget => 6
  | .badSelect => 7
  | .noPermit => 8

/-- Target kind. -/
def TargetKind.code : TargetKind → Nat
  | .port => 0
  | .spread => 1
  | .refuse => 2

/-- The target kind of a code. -/
def TargetKind.ofCode : Nat → Option TargetKind
  | 0 => some .port
  | 1 => some .spread
  | 2 => some .refuse
  | _ => none

/-- CAPTURE, CAP_MGMT and CAP_DEFAULT. -/
def CapMode.code : CapMode → Nat
  | .off => 0
  | .filtered => 1
  | .all => 2

/-- The capture mode of a code. -/
def CapMode.ofCode : Nat → Option CapMode
  | 0 => some .off
  | 1 => some .filtered
  | 2 => some .all
  | _ => none

/-- DEFAULT_ACTION. -/
def DefaultAction.code : DefaultAction → Nat
  | .unmappedError => 0
  | .zeroFill => 1

/-- The default action of a code. -/
def DefaultAction.ofCode : Nat → Option DefaultAction
  | 0 => some .unmappedError
  | 1 => some .zeroFill
  | _ => none

/-- COMBINE. -/
def Combine.code : Combine → Nat
  | .aOnly => 0
  | .either => 1
  | .both => 2
  | .aNotB => 3

/-- The COMBINE value of a code. -/
def Combine.ofCode : Nat → Option Combine
  | 0 => some .aOnly
  | 1 => some .either
  | 2 => some .both
  | 3 => some .aNotB
  | _ => none

/-- TRIGGER. -/
def Trigger.code : Trigger → Nat
  | .none => 0
  | .matchA => 1
  | .matchB => 2
  | .anyError => 3

/-- The TRIGGER value of a code. -/
def Trigger.ofCode : Nat → Option Trigger
  | 0 => some .none
  | 1 => some .matchA
  | 2 => some .matchB
  | 3 => some .anyError
  | _ => Option.none

/-- MODE. -/
def OverflowMode.code : OverflowMode → Nat
  | .stop => 0
  | .ring => 1

/-- The MODE of a code. -/
def OverflowMode.ofCode : Nat → Option OverflowMode
  | 0 => some .stop
  | 1 => some .ring
  | _ => none

/-- Capture state. -/
def CaptureState.code : CaptureState → Nat
  | .off => 0
  | .armed => 1
  | .triggered => 2
  | .frozen => 3

/-- Notice state. -/
def NoticeState.code : NoticeState → Nat
  | .idle => 0
  | .queued => 1
  | .sent => 2

/-- Turn record. -/
def Turn.code : Turn → Nat
  | .returned => 0
  | .notice => 1

/-- OUTCOME. -/
def CommandOutcome.code : CommandOutcome → Nat
  | .none => 0
  | .done => 1
  | .unchanged => 2
  | .unknown => 3
  | .badPort => 4
  | .notRetrained => 5

/-- Link state as status bit 0. -/
def LinkState.isUp : LinkState → Bool
  | .up => true
  | .down => false

/-- The eight commands of the command word (section 10.4). -/
inductive Command where
  | softReset | fence | unfence | retrain | clearCounters | captureArm | captureStop | captureClear
  deriving DecidableEq, Repr

/-- The command of a code; 0x00 and 0x09 to 0xFF are unknown (R192). -/
def Command.ofCode : Nat → Option Command
  | 1 => some .softReset
  | 2 => some .fence
  | 3 => some .unfence
  | 4 => some .retrain
  | 5 => some .clearCounters
  | 6 => some .captureArm
  | 7 => some .captureStop
  | 8 => some .captureClear
  | _ => none

/-- The command code of a COMMAND word, bits 7 to 0 (R192). -/
def commandCode (v : Word) : BitVec 8 := v.extractLsb' 0 8

/-- The port argument of a COMMAND word, bits 15 to 8 (R192). -/
def commandPort (v : Word) : BitVec 8 := v.extractLsb' 8 8

/-- The 25 causes (R166). -/
inductive Cause where
  | fenced (n : DPort)
  | linkChange (n : DPort)
  | degradedChange (n : DPort)
  | linkChangeU (x : UPort)
  | timeout | stray | unmapped | denied | malformed | protocol | commitRefused
  | captureThreshold | captureTriggered | captureFrozen | captureOverflow
  deriving DecidableEq, Repr

/-- The bit position of a cause (section 11.2). -/
def Cause.position : Cause → Nat
  | .fenced n => n.code
  | .linkChange n => 4 + n.code
  | .degradedChange n => 8 + n.code
  | .linkChangeU x => 12 + x.code
  | .timeout => 14
  | .stray => 15
  | .unmapped => 16
  | .denied => 17
  | .malformed => 18
  | .protocol => 19
  | .commitRefused => 20
  | .captureThreshold => 21
  | .captureTriggered => 22
  | .captureFrozen => 23
  | .captureOverflow => 24

/-- The set that holds one cause. -/
def Cause.set (c : Cause) : BitVec 25 := 1#25 <<< c.position

/-! ### Window records (sections 2.1 and 11.3) -/

/-- The configuration word of a window record. -/
def WindowConfig.word (c : WindowConfig) : Word :=
  flagAt 0 c.valid ||| bitsAt 1 c.sources ||| natAt 4 c.targetKind.code ||| bitsAt 6 c.portNumber
    ||| bitsAt 12 c.spreadSet ||| bitsAt 16 c.select ||| bitsAt 24 c.permit ||| natAt 28 c.capture.code

/-- The record with its configuration word written; none where a code names no value (R31, R192). -/
def WindowConfig.withWord (c : WindowConfig) (v : Word) : Option WindowConfig :=
  match TargetKind.ofCode (v.extractLsb' 4 2).toNat, CapMode.ofCode (v.extractLsb' 28 2).toNat with
  | some kind, some capture =>
    some { c with
      valid := v.getLsbD 0
      sources := v.extractLsb' 1 2
      targetKind := kind
      portNumber := v.extractLsb' 6 3
      spreadSet := v.extractLsb' 12 4
      select := v.extractLsb' 16 6
      permit := v.extractLsb' 24 3
      capture := capture }
  | _, _ => none

/-- A word of a window record. -/
def WindowConfig.read (c : WindowConfig) : WindowWord → Word
  | .baseLo => addrLo c.base
  | .baseHi => addrHi c.base
  | .maskLo => addrLo c.mask
  | .maskHi => addrHi c.mask
  | .xbaseLo => addrLo c.xbase
  | .xbaseHi => addrHi c.xbase
  | .config => c.word

/-- A staging record with one word written; none where the write is refused (R31). -/
def WindowConfig.write (c : WindowConfig) (w : WindowWord) (v : Word) : Option WindowConfig :=
  match w with
  | .baseLo => some { c with base := withLo c.base v }
  | .baseHi => some { c with base := withHi c.base v }
  | .maskLo => some { c with mask := withLo c.mask v }
  | .maskHi => some { c with mask := withHi c.mask v }
  | .xbaseLo => some { c with xbase := withLo c.xbase v }
  | .xbaseHi => some { c with xbase := withHi c.xbase v }
  | .config => c.withWord v

/-- The mask of k ones from bit 47 (R22). -/
def topMask (k : Nat) : Addr := BitVec.allOnes 48 <<< (48 - k)

/-- The k of a MASK of valid shape: k ones from bit 47 followed by zeros, k at most 36 (R22, R34). -/
def maskOnes (mask : Addr) : Option Nat := (List.range 37).find? fun k => topMask k == mask

/-- The members of a spread set in ascending port number (R27). -/
def spreadMembers (set : BitVec 4) : List DPort := DPort.all.filter fun n => set.getLsbD n.code

/-- The number of selecting bits: 1 for a set of 2 members and 2 for a set of 4 (R34). -/
def selectBits (set : BitVec 4) : Nat := if (spreadMembers set).length = 2 then 1 else 2

/-- The seven checks of a COMMIT of a record with VALID = yes, in order: the first that fails, or OK (R34). -/
def commitCheck (c : WindowConfig) : CommitStatus :=
  match maskOnes c.mask with
  | none => .maskShape
  | some k =>
    if c.base &&& ~~~ c.mask ≠ 0 then .baseAlign
    else if c.targetKind ≠ .refuse ∧ c.xbase &&& ~~~ c.mask ≠ 0 then .xbaseAlign
    else if c.sources = 0 then .noSource
    else if (c.targetKind = .port ∧ 4 ≤ c.portNumber.toNat)
        ∨ (c.targetKind = .spread ∧ (spreadMembers c.spreadSet).length ≠ 2 ∧ (spreadMembers c.spreadSet).length ≠ 4) then
      .badTarget
    else if c.targetKind = .spread
        ∧ (c.select.toNat < 8 ∨ 48 - k ≤ c.select.toNat + selectBits c.spreadSet - 1) then
      .badSelect
    else if c.targetKind ≠ .refuse ∧ c.permit = 0 then .noPermit
    else .ok

/-- The hit test (R22). -/
def WindowConfig.hitBy (c : WindowConfig) (a : Addr) : Bool := a &&& c.mask == c.base

/-- The translated address: masked bits from XBASE, offset bits from ADDR (R25). -/
def WindowConfig.translate (c : WindowConfig) (a : Addr) : Addr := (c.xbase &&& c.mask) ||| (a &&& ~~~ c.mask)

/-- The member of a SPREAD target that an address picks (R27). -/
def spreadMember (set : BitVec 4) (s : Nat) (a : Addr) : DPort :=
  let members := spreadMembers set
  let value := if members.length = 4 then (a.getLsbD (s + 1)).toNat * 2 + (a.getLsbD s).toNat else (a.getLsbD s).toNat
  members.getD value .d0

/-- The egress port of a window that is not REFUSE (R26, R27). Log 14: a port number of 4 or more, or a set of neither 2
nor 4 members, stands in no valid entry; the definition is total there by taking the low bits, or D0. -/
def WindowConfig.egressPort (c : WindowConfig) (a : Addr) : DPort :=
  match c.targetKind with
  | .spread => spreadMember c.spreadSet c.select.toNat a
  | _ => (DPort.ofCode (c.portNumber.toNat % 4)).getD .d0

end Machine

/-! ### The management address map (section 11.5) -/

/-- The block of an upstream port. -/
def upBlock : List (Nat × UpReg) :=
  [(0x00, .status), (0x04, .defaultAction), (0x08, .reserve), (0x0C, .ingressOccupancy), (0x10, .returnOccupancy),
   (0x14, .returnLoad), (0x18, .pendingCredits), (0x1C, .credits), (0x20, .protocol), (0x24, .forwarded),
   (0x28, .zeroFilled), (0x2C, .mgmtDone), (0x30, .malformed), (0x34, .denied), (0x38, .unmapped),
   (0x3C, .unavailable), (0x40, .pwDiscarded), (0x44, .damaged), (0x48, .linkDowns), (0x4C, .linkUps)]

/-- The block of a downstream port. -/
def downBlock : List (Nat × DownReg) :=
  [(0x00, .status), (0x04, .orphanCount), (0x08, .rspTimeout), (0x0C, .orphanLimit), (0x10, .degOn), (0x14, .degOff),
   (0x18, .fenceLimit), (0x1C, .egressOccupancy), (0x20, .credits), (0x24, .admission), (0x30, .stray),
   (0x34, .nonconforming), (0x38, .timeouts), (0x3C, .late), (0x40, .protocol), (0x44, .requestsSent),
   (0x48, .pwDropped), (0x4C, .crIgnored), (0x50, .damaged), (0x54, .linkDowns), (0x58, .linkUps), (0x5C, .fences)]

/-- A match unit's words. -/
def matchBlock : List (Nat × MatchReg) :=
  [(0x00, .sets), (0x04, .window), (0x08, .addrValueLo), (0x0C, .addrValueHi), (0x10, .addrCareLo), (0x14, .addrCareHi)]

/-- The configurable words of a window record. -/
def windowBlock : List (Nat × WindowWord) :=
  [(0x00, .baseLo), (0x04, .baseHi), (0x08, .maskLo), (0x0C, .maskHi), (0x10, .xbaseLo), (0x14, .xbaseHi), (0x18, .config)]

/-- The registers that stand once. -/
def globalMap : List (Nat × Reg) :=
  [(0x0000, .id), (0x0004, .strap), (0x0008, .time), (0x000C, .mgmtPermit), (0x0010, .mgmtBaseLo), (0x0014, .mgmtBaseHi),
   (0x0018, .command), (0x001C, .commandResult), (0x0100, .cause), (0x0104, .enable), (0x0108, .active),
   (0x010C, .clear), (0x0110, .noticeAck), (0x0114, .noticeStatus), (0x0118, .noticeAddrLo), (0x011C, .noticeAddrHi),
   (0x0120, .noticePort), (0x0124, .noticeRepeat), (0x0128, .noticesSent), (0x012C, .noticesCancelled),
   (0x0130, .repeats), (0x0700, .ottSummary), (0x0840, .combine), (0x0844, .trigger), (0x0848, .capMgmt),
   (0x084C, .capDefault), (0x0850, .postCount), (0x0854, .threshold), (0x0858, .mode), (0x0860, .captureStatus),
   (0x0864, .recordNumber), (0x0868, .captureDropped), (0x086C, .captureOverwritten), (0x0870, .release)]

/-- The register at an offset of the aperture, or none where the offset is unassigned (R178, R194). -/
def regAt (off : Nat) : Option Reg :=
  if 0x0200 ≤ off ∧ off < 0x0300 then
    (List.lookup ((off - 0x0200) % 0x80) upBlock).map (.up (if off < 0x0280 then .u0 else .u1))
  else if 0x0400 ≤ off ∧ off < 0x0600 then
    (List.lookup ((off - 0x0400) % 0x80) downBlock).map (.down ((DPort.ofCode ((off - 0x0400) / 0x80)).getD .d0))
  else if 0x0800 ≤ off ∧ off < 0x0820 then (List.lookup (off - 0x0800) matchBlock).map (.matchUnit .a)
  else if 0x0820 ≤ off ∧ off < 0x0840 then (List.lookup (off - 0x0820) matchBlock).map (.matchUnit .b)
  else if 0x0880 ≤ off ∧ off < 0x08A0 then
    if off % 4 = 0 then some (.head (Fin.ofNat 8 ((off - 0x0880) / 4))) else none
  else if 0x1000 ≤ off ∧ off < 0x1200 then
    let i := Fin.ofNat 16 ((off - 0x1000) / 0x20)
    if off % 0x20 = 0x1C then some (.control i) else (List.lookup (off % 0x20) windowBlock).map (.staging i)
  else if 0x1400 ≤ off ∧ off < 0x1800 then
    let i := Fin.ofNat 16 ((off - 0x1400) / 0x40)
    if off % 0x40 = 0x1C then some (.activeView i .hits)
    else if off % 0x40 = 0x20 then some (.activeView i .commitStatus)
    else (List.lookup (off % 0x40) windowBlock).map fun w => .activeView i (.configured w)
  else if 0x2000 ≤ off ∧ off < 0x2800 then
    if off % 4 = 0 then some (.ottView (Fin.ofNat 128 ((off - 0x2000) / 0x10)) (Fin.ofNat 4 (off % 0x10 / 4))) else none
  else List.lookup off globalMap

/-- The settings and actions of the map, the registers a write may reach (R52, R178, R194). -/
def Reg.writable : Reg → Bool
  | .mgmtPermit | .mgmtBaseLo | .mgmtBaseHi | .command | .enable | .clear | .noticeAck | .noticeAddrLo | .noticeAddrHi
  | .noticePort | .noticeRepeat | .combine | .trigger | .capMgmt | .capDefault | .postCount | .threshold | .mode
  | .release => true
  | .up _ r => r == .defaultAction || r == .reserve
  | .down _ r => r == .rspTimeout || r == .orphanLimit || r == .degOn || r == .degOff || r == .fenceLimit
  | .matchUnit _ _ => true
  | .staging _ _ => true
  | .control _ => true
  | .id | .strap | .time | .commandResult | .cause | .active | .noticeStatus | .noticesSent | .noticesCancelled
  | .repeats | .ottSummary | .captureStatus | .recordNumber | .captureDropped | .captureOverwritten | .head _
  | .activeView _ _ | .ottView _ _ => false

/-- The settings that no other row of the table writes: what SETTING_WRITE covers (log 6). -/
def Reg.plainSetting : Reg → Bool
  | .mgmtPermit | .mgmtBaseHi | .noticeAddrLo | .noticeAddrHi | .noticePort | .noticeRepeat | .combine | .trigger
  | .capMgmt | .capDefault | .postCount | .threshold | .mode => true
  | .up _ r => r == .defaultAction
  | .down _ r => r == .rspTimeout || r == .degOn || r == .degOff || r == .fenceLimit
  | .matchUnit _ _ => true
  | .staging _ _ => true
  | _ => false

end Sys2Proof
end

