-- ==== Sys2Proof/Machine/Flags.lean ====
section
/-! DEFINITION. What the bridge derives from its state and holds in no field: the use of the table (R72, R94), ORPHAN_COUNT
(R104), the return load (R126), availability of a port (R54), ACTIVE (R167), the choice of the upstream transmit arbiter
(R121), the classes of an arriving part (R78, R81) and the claims of waiting heads (R72, R73, R113). -/

namespace Sys2Proof.Machine

/-- The entry of index t. -/
def State.entry (s : State) (t : Fin 128) : OttEntry := s.ott[t.val]

/-- The window of index i. -/
def State.window (s : State) (i : Fin 16) : WindowEntry := s.windows[i.val]

/-- The indices of the table in ascending order. -/
def ottIndices : List (Fin 128) := List.finRange 128

/-- Live states: the requester is still owed an answer (R69). -/
def EntryState.live : EntryState → Bool
  | .pending => true
  | .issued => true
  | .streaming => true
  | .free => false
  | .orphan => false

/-- F, the number of FREE entries (R72). -/
def State.freeEntries (s : State) : Nat := s.ott.toList.countP fun e => e.state == .free

/-- used_p: the entries that are not FREE and whose SRC is p; ORPHAN entries count (R72). -/
def State.used (s : State) (p : UPort) : Nat := s.ott.toList.countP fun e => e.state != .free && e.src == p

/-- ORPHAN_COUNT of Dn (R104). -/
def State.orphanCount (s : State) (n : DPort) : Nat := s.ott.toList.countP fun e => e.state == .orphan && e.egress == n

/-- The FREE entry of lowest index (R74). -/
def State.firstFree (s : State) : Option (Fin 128) := ottIndices.find? fun t => (s.entry t).state == .free

/-- The parts owed for an entry (R125). -/
def OttEntry.owed (e : OttEntry) : Nat :=
  if e.state.live then
    match e.kind with
    | .rd => (e.len - e.received + 63) / 64
    | .wr => 1
  else 0

/-- The parts owed by the live entries of Ux. -/
def State.partsOwed (s : State) (x : UPort) : Nat :=
  (s.ott.toList.map fun e => if e.src == x then e.owed else 0).sum

/-- The return load of Ux (R126). -/
def State.returnLoad (s : State) (x : UPort) : Nat := (s.up.get x).returnQueue.length + s.partsOwed x

/-- In service: UP and not fenced (R54). -/
def State.available (s : State) (n : DPort) : Bool := (s.down.get n).link == .up && !(s.down.get n).fenced

/-- ACTIVE = CAUSE ∩ ENABLE (R167). -/
def NoticeUnit.active (u : NoticeUnit) : BitVec 25 := u.cause &&& u.enable

/-- Management permission of Ux (R181). -/
def State.permitted (s : State) (x : UPort) : Bool := s.mgmtPermit.getLsbD x.code

/-! ### The upstream transmit arbiter (R121) -/

/-- What an upstream transmitter may take. -/
inductive Candidate where
  | cr | part | notice
  deriving DecidableEq, Repr

/-- A CR is eligible: credits are owed and the return room condition holds (R121, R126). -/
def State.crEligible (s : State) (x : UPort) : Bool :=
  1 ≤ (s.up.get x).pendingCredits.toNat && s.returnLoad x ≤ Config.returnRoom

/-- A response part is eligible (R121). -/
def State.partEligible (s : State) (x : UPort) : Bool := !(s.up.get x).returnQueue.isEmpty

/-- The notice is eligible (R121, R170). -/
def State.noticeEligible (s : State) (x : UPort) : Bool :=
  s.notice.state == .queued && s.notice.port == x && 1 ≤ (s.up.get x).credits

/-- What the arbiter of Ux chooses when its transmitter is ready; none while Ux is DOWN or with none eligible (R121). -/
def State.arbiterChoice (s : State) (x : UPort) : Option Candidate :=
  if (s.up.get x).link ≠ .up then none
  else if s.crEligible x then some .cr
  else if s.partEligible x ∧ s.noticeEligible x then
    match (s.up.get x).turn with
    | .returned => some .notice
    | .notice => some .part
  else if s.partEligible x then some .part
  else if s.noticeEligible x then some .notice
  else none

/-! ### Waiting heads and their claims (R61, R72, R73, R113) -/

/-- The waiting head of Ux with its decode result. -/
def State.waitingHead (s : State) (x : UPort) : Option (Request × Decoded) :=
  match (s.up.get x).ingress, (s.up.get x).waiting with
  | r :: _, some d => some (r, d)
  | _, _ => none

/-- The head of Ux whose decode has not been taken. -/
def State.undecodedHead (s : State) (x : UPort) : Option Request :=
  match (s.up.get x).ingress, (s.up.get x).waiting with
  | r :: _, none => some r
  | _, _ => none

/-- Whether an entry may be granted to a head of p: F is at least 1 and F - 1 is at least what the other port's reserve
still asks (R72). -/
def State.eligible (s : State) (p : UPort) : Bool :=
  1 ≤ s.freeEntries && (s.up.get p.other).reserve - s.used p.other ≤ s.freeEntries - 1

/-- The free slots of an egress queue (R113). -/
def State.freeSlots (s : State) (n : DPort) : Nat := Config.egressCapacity - (s.down.get n).egress.length

/-- The egress port that the head of Ux wants a slot of, its other needs being met: it waits, its port is in service, and
a RD or WR is eligible for an entry with F as it stands (R73, R113). -/
def State.wantsSlot (s : State) (x : UPort) : Option DPort :=
  match s.waitingHead x with
  | some (r, d) =>
    if s.available d.egress && 1 ≤ s.freeSlots d.egress && (r.kind == .pw || s.eligible x) then some d.egress else none
  | none => none

/-- Whether the admission arbiter admits the head of Ux: where both heads want the one remaining slot of a queue, the head
of the port that does not hold its admission pointer (R113). -/
def State.admits (s : State) (x : UPort) : Bool :=
  match s.wantsSlot x with
  | none => false
  | some n => !(s.wantsSlot x.other == some n && s.freeSlots n == 1 && (s.down.get n).admission == x)

/-- Whether the head of Ux waits for Dn (R62). -/
def State.waitsFor (s : State) (x : UPort) (n : DPort) : Bool :=
  match s.waitingHead x with
  | some (_, d) => d.egress == n
  | none => false

/-! ### Arriving parts (R78, R81) -/

/-- The class of an arriving part; late and live name the entry (R78). -/
inductive PartClass where
  | stray
  | late (t : Fin 128)
  | live (t : Fin 128)
  deriving DecidableEq, Repr

/-- The class of a part of tag t arriving on Dn (R78). -/
def State.classify (s : State) (n : DPort) (tag : Tag) : PartClass :=
  if h : tag.toNat < 128 then
    let t : Fin 128 := ⟨tag.toNat, h⟩
    let e := s.entry t
    if e.egress ≠ n then .stray
    else
      match e.state with
      | .free => .stray
      | .pending => .stray
      | .orphan => .late t
      | .issued => .live t
      | .streaming => .live t
  else .stray

/-- Whether an OK part fits its entry's KIND and RECEIVED (R81). -/
def OttEntry.conforms (e : OttEntry) (p : Part) : Bool :=
  match e.kind, p.last with
  | .rd, false => p.data.length == 64 && e.received + 64 < e.len
  | .rd, true => 1 ≤ p.data.length && p.data.length ≤ 64 && e.received + p.data.length == e.len
  | .wr, true => p.data.isEmpty
  | .wr, false => false

/-! ### What is due at TIME (R98, R173) -/

/-- The expiry of entry t is due: TIME has reached its deadline (R98). -/
def State.due (s : State) (t : Fin 128) : Bool := (s.entry t).state.live && (s.entry t).deadline == some s.time

/-- The repeat of a SENT notice is due: TIME has reached its repeat deadline (R173). -/
def State.repeatDue (s : State) : Bool := s.notice.state == .sent && s.notice.repeatDeadline == some s.time

/-- An expiry is due, of an entry or of the notice. TIME rises no further before it is taken (R98; log 17). -/
def State.anyDue (s : State) : Bool := ottIndices.any s.due || s.repeatDue

/-! ### The window search (R23) -/

/-- Whether entry i is valid, admits Ux and is hit by the address (R23). -/
def State.selects (s : State) (x : UPort) (a : Addr) (i : Fin 16) : Bool :=
  let c := (s.window i).active
  c.valid && c.sources.getLsbD x.code && c.hitBy a

/-- The lowest-index entry that the search selects (R23). -/
def State.windowSearch (s : State) (x : UPort) (a : Addr) : Option (Fin 16) := (List.finRange 16).find? (s.selects x a)

/-- Whether a live entry holds this source port and tag (R49). -/
def State.tagLive (s : State) (x : UPort) (tag : Tag) : Bool :=
  s.ott.toList.any fun e => e.state.live && e.src == x && e.srcTag == tag

/-- The aperture is hit (R41). -/
def State.hitsAperture (s : State) (a : Addr) : Bool := a &&& 0xFFFFFFFF0000#48 == s.mgmtBase

end Sys2Proof.Machine
end

