-- ==== Sys2Proof/Machine/Ops.lean ====
section
/-! DEFINITION. The named operations over State that the commands share: field updates, causes and the notice unit,
placing parts, handing to the capture unit, retirement and release, the resolution of heads, the allocation event, the
fence and the downstream link-down. -/

namespace Sys2Proof.Machine

/-! ### Field updates -/

/-- Change upstream port x. -/
def State.onUp (s : State) (x : UPort) (f : Upstream → Upstream) : State := { s with up := s.up.modify x f }

/-- Change downstream port n. -/
def State.onDown (s : State) (n : DPort) (f : Downstream → Downstream) : State := { s with down := s.down.modify n f }

/-- Change the counters of upstream port x. -/
def State.countUp (s : State) (x : UPort) (f : UpCounters → UpCounters) : State :=
  s.onUp x fun u => { u with counters := f u.counters }

/-- Change the counters of downstream port n. -/
def State.countDown (s : State) (n : DPort) (f : DownCounters → DownCounters) : State :=
  s.onDown n fun d => { d with counters := f d.counters }

/-- Change entry t of the table. -/
def State.onEntry (s : State) (t : Fin 128) (f : OttEntry → OttEntry) : State :=
  { s with ott := s.ott.set t.val (f (s.entry t)) }

/-- Change window i. -/
def State.onWindow (s : State) (i : Fin 16) (f : WindowEntry → WindowEntry) : State :=
  { s with windows := s.windows.set i.val (f (s.window i)) }

/-- Change the capture unit. -/
def State.onCapture (s : State) (f : Capture → Capture) : State := { s with capture := f s.capture }

/-- Change the notice unit. -/
def State.onNotice (s : State) (f : NoticeUnit → NoticeUnit) : State := { s with notice := f s.notice }

/-- Hand something to a physical layer (R2, R131; log 13). -/
def State.emit (s : State) (o : Output) : State := { s with outputs := o :: s.outputs }

/-! ### Causes and the notice unit -/

/-- The examination of ACTIVE at an event of the notice unit: IDLE moves to QUEUED, repeat mark clear, when ACTIVE is
nonempty (R169). -/
def NoticeUnit.examine (u : NoticeUnit) : NoticeUnit :=
  if u.state = .idle ∧ u.active ≠ 0 then { u with state := .queued, repeatMark := false } else u

/-- Raise a cause (R166). -/
def State.raise (s : State) (c : Cause) : State :=
  s.onNotice fun u => NoticeUnit.examine { u with cause := u.cause ||| c.set }

/-! ### Return queues -/

/-- Place a part in the return queue of Ux; at a full queue it is discarded as a protocol error (R58, R85, R127). -/
def State.placePart (s : State) (x : UPort) (p : Part) : State :=
  if Config.returnCapacity ≤ (s.up.get x).returnQueue.length then
    (s.countUp x fun c => { c with protocol := satInc c.protocol }).raise .protocol
  else s.onUp x fun u => { u with returnQueue := u.returnQueue ++ [p] }

/-- Place the parts of one local answer one after another (R58). -/
def State.placeParts (s : State) (x : UPort) (ps : List Part) : State := ps.foldl (fun s p => s.placePart x p) s

/-- A local answer of one part without data; a PW receives none (R58). -/
def State.answer (s : State) (x : UPort) (r : Request) (status : Status) : State :=
  match r.kind with
  | .pw => s
  | .rd => s.placePart x (Part.final r.tag status)
  | .wr => s.placePart x (Part.final r.tag status)

/-! ### The capture unit (chapter 8) -/

/-- The window code of a decode (R48), with the capture mode a window gives. -/
inductive WindowCode where
  | window (i : Fin 16) (mode : CapMode)
  | mgmt
  | noHit
  | undecoded
  deriving DecidableEq, Repr

/-- The code as records and match units hold it (section 11.2). -/
def WindowCode.code : WindowCode → BitVec 5
  | .window i _ => BitVec.ofNat 5 i.val
  | .mgmt => 16
  | .noHit => 17
  | .undecoded => 18

/-- The capture mode that applies (R148). -/
def Capture.modeFor (c : Capture) : WindowCode → CapMode
  | .window _ mode => mode
  | .mgmt => c.capMgmt
  | .noHit => c.capDefault
  | .undecoded => c.capDefault

/-- What the forwarding of a head adds to its handing: XADDR, the egress port and, for a RD or WR, the index (R48). -/
structure ForwardInfo where
  xaddr  : Addr
  egress : DPort
  ott    : Option (Fin 128)
  deriving DecidableEq, Repr

/-- A request handing (R149). -/
structure Handing where
  port        : UPort
  request     : Request
  code        : WindowCode
  disposition : Disposition
  forward     : Option ForwardInfo
  deriving DecidableEq, Repr

/-- A match unit matches a handing when all four tests hold (R147). -/
def MatchUnit.matched (m : MatchUnit) (h : Handing) : Bool :=
  (m.kindSet == 0 || m.kindSet.getLsbD h.request.kind.code)
    && (m.portSet == 0 || m.portSet.getLsbD h.port.code)
    && (h.code.code &&& m.windowCare) == (m.windowValue &&& m.windowCare)
    && (h.request.addr &&& m.addrCare) == (m.addrValue &&& m.addrCare)

/-- The COMBINE function (R148). -/
def Capture.combined (c : Capture) (h : Handing) : Bool :=
  match c.combine with
  | .aOnly => c.unitA.matched h
  | .either => c.unitA.matched h || c.unitB.matched h
  | .both => c.unitA.matched h && c.unitB.matched h
  | .aNotB => c.unitA.matched h && !c.unitB.matched h

/-- Candidacy of a request handing (R148). -/
def Capture.candidate (c : Capture) (h : Handing) : Bool :=
  match c.modeFor h.code with
  | .all => true
  | .filtered => c.combined h
  | .off => false

/-- The dispositions that fire ANY_ERROR (R152). -/
def Disposition.isError : Disposition → Bool
  | .unmapped => true
  | .denied => true
  | .unavailable => true
  | .malformed => true
  | .rejected => true
  | .dropped => true
  | .forwarded => false
  | .zeroFilled => false
  | .mgmtDone => false

/-- Whether TRIGGER fires on a request handing (R152). -/
def Capture.firesOnRequest (c : Capture) (h : Handing) : Bool :=
  match c.trigger with
  | .none => false
  | .matchA => c.unitA.matched h
  | .matchB => c.unitB.matched h
  | .anyError => h.disposition.isError

/-- Whether TRIGGER fires on a completion handing (R152). -/
def Capture.firesOnCompletion (c : Capture) (status : Status) : Bool := c.trigger == .anyError && status != .ok

/-- The body of a REQUEST record (R155). -/
def Handing.body (h : Handing) : RecordBody :=
  .request h.port h.request.tag h.request.kind h.request.addr h.request.len h.code.code h.disposition
    (h.forward.map ForwardInfo.xaddr) (h.forward.map ForwardInfo.egress) (h.forward.bind ForwardInfo.ott)

/-- Whether an offered record is appended: there is room, or MODE is RING (R157 to R159). -/
def Capture.accepts (c : Capture) : Bool := c.buffer.length < Config.captureCapacity || c.mode == .ring

/-- The record an append makes of a body (R157). -/
def Capture.record (c : Capture) (time : Word) (flag : Bool) (b : RecordBody) : Record where
  rseq := c.nextRseq
  trigger := flag
  time := time
  body := b

/-- Offer a record to the buffer: append, append over the oldest in RING mode, or drop in STOP mode (R157 to R159). -/
def State.offer (s : State) (flag : Bool) (b : RecordBody) : State :=
  let c := s.capture
  let r := c.record s.time flag b
  if c.buffer.length < Config.captureCapacity then
    let s := s.onCapture fun c => { c with buffer := c.buffer ++ [r], nextRseq := c.nextRseq + 1 }
    if c.buffer.length + 1 = c.threshold then s.raise .captureThreshold else s
  else
    match c.mode with
    | .ring =>
      (s.onCapture fun c =>
        { c with
          buffer := c.buffer.tail ++ [r]
          nextRseq := c.nextRseq + 1
          overwritten := satInc c.overwritten }).raise .captureOverflow
    | .stop => (s.onCapture fun c => { c with dropped := satInc c.dropped }).raise .captureOverflow

/-- Capture freezes when POST_REMAIN is 0 (R153, R154). -/
def State.freezeAtZero (s : State) : State :=
  if s.capture.postRemain = 0 then (s.onCapture fun c => { c with state := .frozen }).raise .captureFrozen else s

/-- The trigger fires in ARMED (R153). -/
def State.triggerCapture (s : State) (candidate : Bool) (b : RecordBody) : State :=
  let s := (s.onCapture fun c => { c with state := .triggered, postRemain := c.postCount }).raise .captureTriggered
  let s := if candidate then s.offer true b else s
  s.freezeAtZero

/-- A candidate handed in TRIGGERED: each record appended lowers POST_REMAIN (R154). -/
def State.recordTriggered (s : State) (b : RecordBody) : State :=
  if s.capture.accepts then
    ((s.offer false b).onCapture fun c => { c with postRemain := c.postRemain - 1 }).freezeAtZero
  else s.offer false b

/-- A handing, of a candidate or not, that fires the trigger or not, in each capture state (R151). -/
def State.hand (s : State) (candidate fires : Bool) (b : RecordBody) : State :=
  match s.capture.state with
  | .off => s
  | .frozen => s
  | .armed => if fires then s.triggerCapture candidate b else if candidate then s.offer false b else s
  | .triggered => if candidate then s.recordTriggered b else s

/-- A request handing (R149). -/
def State.handRequest (s : State) (h : Handing) : State :=
  s.hand (s.capture.candidate h) (s.capture.firesOnRequest h) h.body

/-- A completion handing of entry t; it exists for candidates alone (R86, R149, R156). -/
def State.handCompletion (s : State) (t : Fin 128) (status : Status) : State :=
  let e := s.entry t
  s.hand true (s.capture.firesOnCompletion status)
    (.completion e.src e.srcTag t status e.received (s.time - e.dispatchTime))

/-! ### The life of an entry (chapters 4 and 5) -/

/-- The entry of index t becomes FREE (R87). -/
def State.release (s : State) (t : Fin 128) : State :=
  s.onEntry t fun e => { e with state := .free, deadline := none, cap := false }

/-- The entry of index t becomes ORPHAN: it has no deadline, and CAP is clear (R69, R86, R90). -/
def State.orphan (s : State) (t : Fin 128) : State :=
  s.onEntry t fun e => { e with state := .orphan, deadline := none, cap := false }

/-- Hand the completion of entry t if CAP is set, and clear CAP (R86). -/
def State.complete (s : State) (t : Fin 128) (status : Status) : State :=
  if (s.entry t).cap then (s.handCompletion t status).onEntry t fun e => { e with cap := false } else s

/-- Retirement with a final part without data in the requester's return queue (R80, R84, R86, R88, R89, R99 to R101). -/
def State.retire (s : State) (t : Fin 128) (status : Status) : State :=
  (s.placePart (s.entry t).src (Part.final (s.entry t).srcTag status)).complete t status

/-- The items of an egress queue without the item of entry t; the others keep their order (R114). -/
def removeItem (t : Fin 128) (q : List EgressItem) : List EgressItem :=
  q.filter fun i => match i with
    | .entry t' _ => t' != t
    | .posted _ _ _ => true

/-- Remove the item of entry t from the egress queue of its EGRESS (R114). -/
def State.dropItem (s : State) (t : Fin 128) : State :=
  s.onDown (s.entry t).egress fun d => { d with egress := removeItem t d.egress }

/-! ### Resolution of heads (R48) -/

/-- The counters a disposition counts, and PW_DISCARDED for a PW (R64). -/
def UpCounters.countHead (c : UpCounters) (d : Disposition) (kind : ReqKind) : UpCounters :=
  let discarded := if kind = .pw then satInc c.pwDiscarded else c.pwDiscarded
  match d with
  | .forwarded => { c with forwarded := satInc c.forwarded }
  | .zeroFilled => { c with zeroFilled := satInc c.zeroFilled }
  | .mgmtDone => { c with mgmtDone := satInc c.mgmtDone }
  | .unmapped => { c with unmapped := satInc c.unmapped, pwDiscarded := discarded }
  | .denied => { c with denied := satInc c.denied, pwDiscarded := discarded }
  | .unavailable => { c with unavailable := satInc c.unavailable, pwDiscarded := discarded }
  | .malformed => { c with malformed := satInc c.malformed, pwDiscarded := discarded }
  | .rejected => { c with protocol := satInc c.protocol }
  | .dropped => c

/-- The cause a disposition raises at dispatch (R65). -/
def Disposition.cause : Disposition → Option Cause
  | .unmapped => some .unmapped
  | .denied => some .denied
  | .malformed => some .malformed
  | .rejected => some .protocol
  | .unavailable => none
  | .forwarded => none
  | .zeroFilled => none
  | .mgmtDone => none
  | .dropped => none

/-- Raise a cause where there is one. -/
def State.raiseOpt (s : State) : Option Cause → State
  | some c => s.raise c
  | none => s

/-- The head of Ux leaves the queue and returns its credit (R15, R48). -/
def State.popHead (s : State) (x : UPort) : State :=
  s.onUp x fun u =>
    { u with ingress := u.ingress.tail, waiting := none, pendingCredits := satInc u.pendingCredits }

/-- Resolve the head of Ux: it leaves the queue with its credit, is counted, raises `cause`, and is handed to the capture
unit (R48). -/
def State.resolveHead (s : State) (x : UPort) (r : Request) (code : WindowCode) (d : Disposition) (cause : Option Cause)
    (forward : Option ForwardInfo) : State :=
  let h : Handing :=
    { port := x
      request := r
      code := code
      disposition := d
      forward := forward }
  ((((s.popHead x).countUp x fun c => c.countHead d r.kind)).raiseOpt cause).handRequest h

/-- Answer the head of Ux with an error and resolve it so (R50 to R55, R62). -/
def State.refuseHead (s : State) (x : UPort) (r : Request) (code : WindowCode) (d : Disposition) (status : Status) : State :=
  (s.answer x r status).resolveHead x r code d d.cause none

/-- Resolve UNAVAILABLE the head of Ux if it waits for Dn (R62). -/
def State.failWaiting (s : State) (x : UPort) (n : DPort) : State :=
  match s.waitingHead x with
  | some (r, d) => if d.egress = n then s.refuseHead x r (.window d.window d.capture) .unavailable .unavailable else s
  | none => s

/-- The port whose head is handed first where no rule orders the two handings: a free value (logs 9, 10, 21). -/
def freeFirst (choice : Nat) : UPort := if Config.u1HandedFirst choice then .u1 else .u0

/-- Resolve UNAVAILABLE the heads that wait for Dn (R62). The order of the two handings is free where both wait (log 9). -/
def State.failWaitingHeads (s : State) (n : DPort) : State :=
  if s.waitsFor .u0 n && s.waitsFor .u1 n then
    let first := freeFirst s.choices
    (({ s with choices := s.choices + 1 } : State).failWaiting first n).failWaiting first.other n
  else (s.failWaiting .u0 n).failWaiting .u1 n

/-! ### The allocation event (R60, R73 to R75, R113) -/

/-- What a forwarded head takes: the slot alone, or an entry with the slot (R60). -/
inductive Ticket where
  | slot
  | entry (t : Fin 128)
  deriving DecidableEq, Repr

/-- The handing of a head forwarded with this decode result and ticket (R48). -/
def forwardHanding (x : UPort) (r : Request) (d : Decoded) (ticket : Ticket) : Handing where
  port := x
  request := r
  code := .window d.window d.capture
  disposition := .forwarded
  forward := some
    { xaddr := d.xaddr
      egress := d.egress
      ott := match ticket with
        | .slot => none
        | .entry t => some t }

/-- The entry that a grant of index t fills from the head and its decode result (R75, R97). -/
def State.granted (s : State) (x : UPort) (r : Request) (d : Decoded) (kind : AnsweredKind) (t : Fin 128) : OttEntry where
  state := .pending
  src := x
  srcTag := r.tag
  kind := kind
  egress := d.egress
  xaddr := d.xaddr
  len := r.len.toNat
  received := 0
  deadline :=
    let timeout := (s.down.get d.egress).rspTimeout
    if timeout = 0 then none else some (s.time + BitVec.ofNat 32 timeout)
  window := d.window
  cap := s.capture.candidate (forwardHanding x r d (.entry t))
  dispatchTime := s.time

/-- The allocation arbiter serves the head of Ux, if the admission arbiter admitted it: a PW needs no entry; a RD or WR is
granted the FREE entry of lowest index if it is eligible at this moment (R74). -/
def State.serve (s : State) (x : UPort) (admitted : Bool) : State × Option Ticket :=
  match admitted, s.waitingHead x with
  | true, some (r, d) =>
    match r.kind.answered with
    | none => (s, some .slot)
    | some kind =>
      match s.eligible x, s.firstFree with
      | true, some t =>
        (({ s with lastGrant := x } : State).onEntry t fun _ => s.granted x r d kind t, some (.entry t))
      | _, _ => (s, none)
  | _, _ => (s, none)

/-- The egress item of a forwarded head (R112). -/
def itemOf (r : Request) (d : Decoded) : Ticket → EgressItem
  | .slot => .posted d.xaddr r.len r.data
  | .entry t => .entry t r.data

/-- The item of the head of Ux joins its egress queue, and the admission pointer is set (R113). -/
def State.join (s : State) (x : UPort) : Option Ticket → State
  | none => s
  | some ticket =>
    match s.waitingHead x with
    | some (r, d) => s.onDown d.egress fun q => { q with egress := q.egress ++ [itemOf r d ticket], admission := x }
    | none => s

/-- The head of Ux resolves FORWARDED (R60). -/
def State.resolveForwarded (s : State) (x : UPort) : Option Ticket → State
  | none => s
  | some ticket =>
    match s.waitingHead x with
    | some (r, d) =>
      s.resolveHead x r (.window d.window d.capture) .forwarded none (forwardHanding x r d ticket).forward
    | none => s

/-- The port whose item joins first: with both heads in one queue, the port that does not hold its pointer (R113). -/
def State.joinsFirst (s : State) : UPort :=
  match s.waitingHead .u0, s.waitingHead .u1 with
  | some (_, d), some (_, d') => if d.egress = d'.egress then (s.down.get d.egress).admission.other else .u0
  | _, _ => .u0

/-- Resolve the heads that hold tickets: `served` is the port the allocation arbiter served first. Two RD or WR heads are
handed in the order of their grants; where one of two is a PW the order is free (log 10). -/
def State.resolveTickets (s : State) (served : UPort) (t0 t1 : Option Ticket) : State :=
  let ticket (x : UPort) := match x with
    | .u0 => t0
    | .u1 => t1
  let inOrder (s : State) (first : UPort) :=
    (s.resolveForwarded first (ticket first)).resolveForwarded first.other (ticket first.other)
  match t0, t1 with
  | some (.entry _), some (.entry _) => inOrder s served
  | some _, some _ => inOrder { s with choices := s.choices + 1 } (freeFirst s.choices)
  | _, _ => inOrder s .u0

/-- An allocation event (R73): the admission arbiters admit (R113), the allocation arbiter serves first the head of the
port that does not hold the last-grant record (R74), and each head served is forwarded in the event (R60). -/
def State.allocate (s : State) : State :=
  let first := s.lastGrant.other
  let r1 := s.serve first (s.admits first)
  let r2 := r1.1.serve first.other (s.admits first.other)
  let t0 := match first with
    | .u0 => r1.2
    | .u1 => r2.2
  let t1 := match first with
    | .u0 => r2.2
    | .u1 => r1.2
  let s' := r2.1
  let joined := match s.joinsFirst with
    | .u0 => (s'.join .u0 t0).join .u1 t1
    | .u1 => (s'.join .u1 t1).join .u0 t0
  joined.resolveTickets first t0 t1

/-! ### The fence and the downstream link-down (R88, R89, R119, R130, R132 to R134) -/

/-- The number of PW items in an egress queue. -/
def postedCount (q : List EgressItem) : Nat :=
  q.countP fun i => match i with
    | .entry _ _ => false
    | .posted _ _ _ => true

/-- Flush the egress queue of Dn; each PW item is dropped and counted (R119). -/
def State.flush (s : State) (n : DPort) : State :=
  s.onDown n fun d =>
    { d with
      egress := []
      counters := { d.counters with pwDropped := satAdd d.counters.pwDropped (postedCount d.egress) } }

/-- What a fence of Dn does to entry t (R88). -/
def State.fenceEntry (n : DPort) (s : State) (t : Fin 128) : State :=
  if (s.entry t).egress ≠ n then s
  else
    match (s.entry t).state with
    | .pending => (s.retire t .unavailable).release t
    | .issued => (s.retire t .unavailable).orphan t
    | .streaming => (s.retire t .unavailable).orphan t
    | .orphan => s
    | .free => s

/-- What a link-down of Dn does to entry t (R89). -/
def State.unlinkEntry (n : DPort) (s : State) (t : Fin 128) : State :=
  if (s.entry t).egress ≠ n then s
  else
    match (s.entry t).state with
    | .pending => (s.retire t .unavailable).release t
    | .issued => (s.retire t .unavailable).release t
    | .streaming => (s.retire t .unavailable).release t
    | .orphan => s.release t
    | .free => s

/-- The fence of Dn with this reason, if its flag is clear (R132 to R134): flag, reason, RETRAINED, counter and cause;
entries in ascending index (R88); flush (R119); waiting heads (R62). Its allocation event is the caller's (log 8). -/
def State.fence (s : State) (n : DPort) (reason : FenceReason) : State :=
  if (s.down.get n).fenced then s
  else
    let s := s.onDown n fun d =>
      { d with
        fenced := true
        reason := reason
        retrained := d.link == .down
        counters := { d.counters with fences := satInc d.counters.fences } }
    let s := s.raise (.fenced n)
    let s := ottIndices.foldl (State.fenceEntry n) s
    (s.flush n).failWaitingHeads n

/-- The orphan limit test of Dn (R106). -/
def State.orphanTest (s : State) (n : DPort) : State :=
  if (s.down.get n).orphanLimit ≤ s.orphanCount n then s.fence n .orphans else s

/-- A fence as the whole of what follows in its event, with its allocation event (R119). -/
def State.fenceEvent (s : State) (n : DPort) (reason : FenceReason) : State :=
  if (s.down.get n).fenced then s else (s.fence n reason).allocate

/-- The orphan limit test after a rise of the count or an accepted write of the limit, with the allocation event of the
fence it may take (R106). -/
def State.orphanTestEvent (s : State) (n : DPort) : State :=
  if (s.down.get n).orphanLimit ≤ s.orphanCount n then s.fenceEvent n .orphans else s

/-- The link-down of Dn, a port that is UP (R130). Its allocation event is the caller's (log 8). -/
def State.linkDown (s : State) (n : DPort) : State :=
  let wasDegraded := (s.down.get n).degraded
  let s := s.onDown n fun d =>
    { d with
      link := .down
      badRun := 0
      goodRun := 0
      degraded := false
      retrained := d.fenced || d.retrained
      credits := 0
      counters := { d.counters with linkDowns := satInc d.counters.linkDowns } }
  let s := s.raise (.linkChange n)
  let s := if wasDegraded then s.raise (.degradedChange n) else s
  let s := ottIndices.foldl (State.unlinkEntry n) s
  (s.flush n).failWaitingHeads n

/-- Force Dn DOWN and ask its physical layer to re-establish the link; a port already DOWN is left as it is (R131, R142). -/
def State.forceDown (s : State) (n : DPort) : State :=
  if (s.down.get n).link = .up then (s.linkDown n).emit (.reestablish n) else s

/-! ### While RESET_N is released -/

/-- A command's effect while the bridge runs; while RESET_N is asserted it is held in its power-on state (R190). -/
def whileRunning (s : State) (f : State → State) : Result := .next (if s.held then s else f s)

end Sys2Proof.Machine
end

