-- ==== Sys2Proof/Machine/Timers.lean ====
section
/-! DEFINITION. TIME and what passes with it: TIME_ADVANCE (R183), EXPIRY of an entry (R98 to R102), REPEAT_EXPIRY of a
notice (R173). An expiry is taken at its moment: TIME_ADVANCE does not pass one that is due (log 17). -/

namespace Sys2Proof.Machine

/-- What the expiry of entry t does in each live state (R99 to R101). -/
def State.expireEntry (s : State) (t : Fin 128) : State :=
  match (s.entry t).state with
  | .pending => (((s.dropItem t).retire t .timeout).release t).allocate
  | .issued => ((s.retire t .timeout).orphan t).orphanTestEvent (s.entry t).egress
  | .streaming => ((s.retire t .timeout).orphan t).orphanTestEvent (s.entry t).egress
  | .orphan => s
  | .free => s

/-- The expiry of entry t, when TIME has reached its deadline (R98): counted, cause TIMEOUT (R102). -/
def State.expire (s : State) (t : Fin 128) : State :=
  if s.due t then
    ((s.countDown (s.entry t).egress fun c => { c with timeouts := satInc c.timeouts }).raise .timeout).expireEntry t
  else s

/-- The notice unit when its repeat deadline passes (R173). -/
def NoticeUnit.requeue (u : NoticeUnit) : NoticeUnit :=
  { u with state := .queued, repeatMark := true, repeatDeadline := none, repeats := satInc u.repeats }

/-- The expiry of the repeat deadline of a SENT notice (R173). -/
def State.repeatExpire (s : State) : State := if s.repeatDue then s.onNotice NoticeUnit.requeue else s

/-- TIME rises by one (R183), unless an expiry is due at TIME as it stands: that event comes first (R98; log 17). -/
def State.advance (s : State) : State := if s.anyDue then s else { s with time := s.time + 1 }

/-- EXPIRY (R98). -/
def execExpiry (t : Fin 128) (s : State) : Result := whileRunning s fun s => s.expire t

/-- REPEAT_EXPIRY (R173). -/
def execRepeatExpiry (s : State) : Result := whileRunning s fun s => s.repeatExpire

/-- TIME_ADVANCE (R183). -/
def execTimeAdvance (s : State) : Result := whileRunning s fun s => s.advance

end Sys2Proof.Machine
end

