-- ==== Sys2Proof/Machine/Arrivals.lean ====
section
/-! DEFINITION. The arrivals: the structural checks and directions (R18 to R20), requests (R46), CR messages (R16, R117),
response parts (R78 to R84, R103), damaged messages and the runs (R136 to R138, R144). -/

namespace Sys2Proof.Machine

/-! ### Good and damaged messages at the port health unit -/

/-- The clearing of DEGRADED after a good message (R137). -/
def State.recoverTest (s : State) (n : DPort) : State :=
  let d := s.down.get n
  if d.degraded ∧ d.degOff ≤ d.goodRun.toNat then
    (s.onDown n fun d => { d with degraded := false }).raise (.degradedChange n)
  else s

/-- The setting of DEGRADED after a damaged message (R137). -/
def State.degradeTest (s : State) (n : DPort) : State :=
  let d := s.down.get n
  if ¬ d.degraded ∧ d.degOn ≤ d.badRun.toNat then
    (s.onDown n fun d => { d with degraded := true }).raise (.degradedChange n)
  else s

/-- Count a good message of Dn (R136). -/
def State.countGood (s : State) (n : DPort) : State :=
  (s.onDown n fun d => { d with goodRun := satInc d.goodRun, badRun := 0 }).recoverTest n

/-- The fence limit test after a damaged message (R138). -/
def State.damageTest (s : State) (n : DPort) : State :=
  if (s.down.get n).fenceLimit ≤ (s.down.get n).badRun.toNat then s.fenceEvent n .damage else s

/-- Count a damaged message of a port; it is discarded (R19, R136 to R138, R144). -/
def State.countDamaged (s : State) : Port → State
  | .up x => s.countUp x fun c => { c with damaged := satInc c.damaged }
  | .down n =>
    ((s.onDown n fun d =>
      { d with
        badRun := satInc d.badRun
        goodRun := 0
        counters := { d.counters with damaged := satInc d.counters.damaged } }).degradeTest n).damageTest n

/-! ### The kinds of message on the ports where they travel -/

/-- A protocol error of Ux (R64). -/
def State.protocolErrorUp (s : State) (x : UPort) : State :=
  (s.countUp x fun c => { c with protocol := satInc c.protocol }).raise .protocol

/-- A protocol error of Dn (R20). -/
def State.protocolErrorDown (s : State) (n : DPort) : State :=
  (s.countDown n fun c => { c with protocol := satInc c.protocol }).raise .protocol

/-- A request arrives on Ux: appended, or discarded at a full ingress queue (R46). -/
def State.requestArrives (s : State) (x : UPort) (r : Request) : State :=
  if (s.up.get x).ingress.length < Config.ingressCapacity then
    s.onUp x fun u => { u with ingress := u.ingress ++ [r] }
  else s.protocolErrorUp x

/-- A CR arrives on Ux (R16). -/
def State.crArrivesUp (s : State) (x : UPort) (count : BitVec 7) : State :=
  if (s.up.get x).credits + count.toNat ≤ Config.creditLimit then
    s.onUp x fun u => { u with credits := u.credits + count.toNat }
  else s.protocolErrorUp x

/-- A CR arrives on Dn (R117). -/
def State.crArrivesDown (s : State) (n : DPort) (count : BitVec 7) : State :=
  let d := s.down.get n
  let taken := s.onDown n fun d => { d with credits := d.credits + count.toNat }
  let ignored := s.countDown n fun c => { c with crIgnored := satInc c.crIgnored }
  if d.fenced then
    if d.retrained ∧ d.credits + count.toNat ≤ Config.creditLimit then taken else ignored
  else if d.credits + count.toNat ≤ Config.creditLimit then taken
  else ignored.fenceEvent n .credit

/-! ### Response parts -/

/-- A stray part (R79). -/
def State.strayPart (s : State) (n : DPort) : State :=
  (s.countDown n fun c => { c with stray := satInc c.stray }).raise .stray

/-- A late part (R103). -/
def State.latePart (s : State) (n : DPort) (t : Fin 128) (last : Bool) : State :=
  let s := s.countDown n fun c => { c with late := satInc c.late }
  if last then (s.release t).allocate else s

/-- End the requester's answer of entry t with a final part; the target is finished if its part had LAST (R80, R84). -/
def State.endAnswer (s : State) (n : DPort) (t : Fin 128) (status : Status) (last : Bool) : State :=
  let s := s.retire t status
  if last then (s.release t).allocate else (s.orphan t).orphanTestEvent n

/-- A conforming part with LAST clear (R82). A deadline that falls together with the part passes in the same event, after
the part (R108). Where the return queue is full the part is discarded (R127), and the entry takes the bytes in RECEIVED and
streams on all the same: DESIGN CHOICE, log 22. -/
def State.forwardPart (s : State) (t : Fin 128) (p : Part) : State :=
  ((s.placePart (s.entry t).src { p with tag := (s.entry t).srcTag }).onEntry t fun e =>
    { e with state := .streaming, received := e.received + p.data.length }).expire t

/-- A conforming part with LAST set: retirement and release (R83, R86, R87). At a full return queue the entry is released as
R127 says, and RECEIVED counts the discarded bytes: DESIGN CHOICE, log 22. -/
def State.forwardLast (s : State) (t : Fin 128) (p : Part) : State :=
  let s := s.placePart (s.entry t).src { p with tag := (s.entry t).srcTag }
  let s := s.onEntry t fun e => { e with received := e.received + p.data.length }
  ((s.complete t .ok).release t).allocate

/-- A live part (R80 to R84). -/
def State.livePart (s : State) (n : DPort) (t : Fin 128) (p : Part) : State :=
  if p.status ≠ .ok then s.endAnswer n t p.status p.last
  else if (s.entry t).conforms p then
    if p.last then s.forwardLast t p else s.forwardPart t p
  else
    (s.countDown n fun c => { c with nonconforming := satInc c.nonconforming }).endAnswer n t .targetError p.last

/-- A part arrives on Dn (R78). -/
def State.partArrives (s : State) (n : DPort) (p : Part) : State :=
  match s.classify n p.tag with
  | .stray => s.strayPart n
  | .late t => s.latePart n t p.last
  | .live t => s.livePart n t p

/-! ### The arrival of a message -/

/-- The link state of a port. -/
def State.linkOf (s : State) : Port → LinkState
  | .up x => (s.up.get x).link
  | .down n => (s.down.get n).link

/-- A usable message on a port that is UP: it is taken or misdirected by the directions of R20. -/
def State.receive (s : State) : Port → Message → State
  | .up x, .request r => s.requestArrives x r
  | .up x, .cr count => s.crArrivesUp x count
  | .up x, .rsp _ => s.protocolErrorUp x
  | .down n, .rsp p => (s.countGood n).partArrives n p
  | .down n, .cr count => (s.countGood n).crArrivesDown n count
  | .down n, .request _ => (s.countGood n).protocolErrorDown n

/-- The arrival of a good message: the physical layer reports none on a DOWN port (R1, log 4); one that is structurally
unusable is treated as damaged (R18, R19; log 16). -/
def State.arrive (s : State) (p : Port) (m : Message) : State :=
  if s.linkOf p = .down then s
  else if m.usable then s.receive p m
  else s.countDamaged p

/-- The arrival of a message reported damaged, or delivered good as bytes that the structural checks find unusable
(R19, R191; log 16). -/
def State.arriveDamaged (s : State) (p : Port) (delivered : Option (List Byte)) : State :=
  if s.linkOf p = .down then s
  else
    match delivered.bind Message.ofBytes with
    | some m => s.arrive p m
    | none => s.countDamaged p

/-- REQUEST_ARRIVAL (R46). -/
def execRequestArrival (x : UPort) (r : Request) (s : State) : Result :=
  whileRunning s fun s => s.arrive (.up x) (.request r)

/-- UPSTREAM_CR_ARRIVAL (R16). -/
def execUpstreamCrArrival (x : UPort) (count : BitVec 7) (s : State) : Result :=
  whileRunning s fun s => s.arrive (.up x) (.cr count)

/-- PART_ARRIVAL (R78). -/
def execPartArrival (n : DPort) (p : Part) (s : State) : Result :=
  whileRunning s fun s => s.arrive (.down n) (.rsp p)

/-- DOWNSTREAM_CR_ARRIVAL (R117). -/
def execDownstreamCrArrival (n : DPort) (count : BitVec 7) (s : State) : Result :=
  whileRunning s fun s => s.arrive (.down n) (.cr count)

/-- DAMAGED_MESSAGE_ARRIVAL (R19). -/
def execDamagedMessageArrival (p : Port) (delivered : Option (List Byte)) (s : State) : Result :=
  whileRunning s fun s => s.arriveDamaged p delivered

/-- MISDIRECTED_MESSAGE_ARRIVAL (R20). -/
def execMisdirectedMessageArrival (m : Misdirected) (s : State) : Result :=
  whileRunning s fun s =>
    match m with
    | .rspUpstream x p => s.arrive (.up x) (.rsp p)
    | .requestDownstream n r => s.arrive (.down n) (.request r)

end Sys2Proof.Machine
end

