-- ==== Sys2Proof/Machine/Management.lean ====
section
/-! DEFINITION. The management target: what each register reads (R178, R179, R194, chapter 11), which values a setting
takes (R180, R192), the window control word (R32 to R37), the notice and capture actions (R161, R168, R172), the command
word with its result (R184, R185) and CLEAR_COUNTERS (R186). SOFT_RESET is in Machine/Resets.lean. -/

namespace Sys2Proof.Machine

/-! ### Reading registers -/

/-- A register of an upstream port's block. -/
def State.readUp (s : State) (x : UPort) : UpReg → Word
  | .status => flagAt 0 (s.up.get x).link.isUp ||| natAt 4 (s.up.get x).turn.code
  | .defaultAction => natAt 0 (s.up.get x).defaultAction.code
  | .reserve => natAt 0 (s.up.get x).reserve
  | .ingressOccupancy => natAt 0 (s.up.get x).ingress.length
  | .returnOccupancy => natAt 0 (s.up.get x).returnQueue.length
  | .returnLoad => natAt 0 (s.returnLoad x)
  | .pendingCredits => (s.up.get x).pendingCredits
  | .credits => natAt 0 (s.up.get x).credits
  | .protocol => (s.up.get x).counters.protocol
  | .forwarded => (s.up.get x).counters.forwarded
  | .zeroFilled => (s.up.get x).counters.zeroFilled
  | .mgmtDone => (s.up.get x).counters.mgmtDone
  | .malformed => (s.up.get x).counters.malformed
  | .denied => (s.up.get x).counters.denied
  | .unmapped => (s.up.get x).counters.unmapped
  | .unavailable => (s.up.get x).counters.unavailable
  | .pwDiscarded => (s.up.get x).counters.pwDiscarded
  | .damaged => (s.up.get x).counters.damaged
  | .linkDowns => (s.up.get x).counters.linkDowns
  | .linkUps => (s.up.get x).counters.linkUps

/-- A register of a downstream port's block. -/
def State.readDown (s : State) (n : DPort) : DownReg → Word
  | .status =>
    flagAt 0 (s.down.get n).link.isUp ||| flagAt 1 (s.down.get n).fenced ||| natAt 4 (s.down.get n).reason.code
      ||| flagAt 8 (s.down.get n).retrained ||| flagAt 9 (s.down.get n).degraded ||| bitsAt 16 (s.down.get n).badRun
      ||| bitsAt 24 (s.down.get n).goodRun
  | .orphanCount => natAt 0 (s.orphanCount n)
  | .rspTimeout => natAt 0 (s.down.get n).rspTimeout
  | .orphanLimit => natAt 0 (s.down.get n).orphanLimit
  | .degOn => natAt 0 (s.down.get n).degOn
  | .degOff => natAt 0 (s.down.get n).degOff
  | .fenceLimit => natAt 0 (s.down.get n).fenceLimit
  | .egressOccupancy => natAt 0 (s.down.get n).egress.length
  | .credits => natAt 0 (s.down.get n).credits
  | .admission => natAt 0 (s.down.get n).admission.code
  | .stray => (s.down.get n).counters.stray
  | .nonconforming => (s.down.get n).counters.nonconforming
  | .timeouts => (s.down.get n).counters.timeouts
  | .late => (s.down.get n).counters.late
  | .protocol => (s.down.get n).counters.protocol
  | .requestsSent => (s.down.get n).counters.requestsSent
  | .pwDropped => (s.down.get n).counters.pwDropped
  | .crIgnored => (s.down.get n).counters.crIgnored
  | .damaged => (s.down.get n).counters.damaged
  | .linkDowns => (s.down.get n).counters.linkDowns
  | .linkUps => (s.down.get n).counters.linkUps
  | .fences => (s.down.get n).counters.fences

/-- A register of a match unit. -/
def MatchUnit.read (m : MatchUnit) : MatchReg → Word
  | .sets => bitsAt 0 m.kindSet ||| bitsAt 4 m.portSet
  | .window => bitsAt 0 m.windowValue ||| bitsAt 8 m.windowCare
  | .addrValueLo => addrLo m.addrValue
  | .addrValueHi => addrHi m.addrValue
  | .addrCareLo => addrLo m.addrCare
  | .addrCareHi => addrHi m.addrCare

/-- Word w of a capture record (sections 11.4, R193). -/
def Record.word (r : Record) (w : Fin 8) : Word :=
  match r.body with
  | .request port tag kind addr len window disposition xaddr egress ott =>
    match w.val with
    | 0 =>
      bitsAt 0 r.rseq ||| natAt 16 1 ||| flagAt 18 r.trigger ||| flagAt 19 xaddr.isSome ||| flagAt 20 egress.isSome
        ||| flagAt 21 ott.isSome
    | 1 => r.time
    | 2 =>
      bitsAt 0 tag ||| bitsAt 8 len ||| bitsAt 17 window ||| natAt 22 disposition.code ||| natAt 26 kind.code
        ||| natAt 28 port.code ||| natAt 29 (egress.elim 0 DPort.code)
    | 3 => addrLo addr
    | 4 => addrHi addr ||| natAt 16 (ott.elim 0 Fin.val)
    | 5 => addrLo (xaddr.getD 0)
    | 6 => addrHi (xaddr.getD 0)
    | _ => 0
  | .completion port tag ott status bytes latency =>
    match w.val with
    | 0 => bitsAt 0 r.rseq ||| natAt 16 2 ||| flagAt 18 r.trigger ||| flagAt 21 true
    | 1 => r.time
    | 2 => bitsAt 0 tag ||| natAt 8 bytes ||| natAt 17 status.code ||| natAt 28 port.code
    | 3 => latency
    | 4 => natAt 16 ott.val
    | _ => 0

/-- Word w of HEAD: the oldest record, or a record with RKIND NONE and all fields zero (R160, R193). -/
def Capture.headWord (c : Capture) (w : Fin 8) : Word :=
  match c.buffer with
  | [] => 0
  | r :: _ => r.word w

/-- Word w of the OTT view of an entry (section 11.4). -/
def OttEntry.word (e : OttEntry) (w : Fin 4) : Word :=
  match w.val with
  | 0 =>
    natAt 0 e.len ||| natAt 9 e.state.code ||| natAt 12 e.src.code ||| natAt 13 e.kind.code ||| flagAt 14 e.cap
      ||| flagAt 15 e.deadline.isSome ||| natAt 16 e.egress.code ||| natAt 20 e.window.val ||| bitsAt 24 e.srcTag
  | 1 => addrLo e.xaddr
  | 2 => addrHi e.xaddr ||| natAt 16 e.received
  | _ => e.dispatchTime

/-- A word of an active entry view (R39, section 11.3). -/
def WindowEntry.view (e : WindowEntry) : ViewWord → Word
  | .configured w => e.active.read w
  | .hits => e.hits
  | .commitStatus => natAt 0 e.status.code

/-- The match unit of a name. -/
def Capture.matchUnit (c : Capture) : MatchName → MatchUnit
  | .a => c.unitA
  | .b => c.unitB

/-- What a register reads (R178, R179, R194). -/
def State.readReg (s : State) : Reg → Word
  | .id => Config.idWord
  | .strap => bitsAt 0 s.strap
  | .time => s.time
  | .mgmtPermit => bitsAt 0 s.mgmtPermit
  | .mgmtBaseLo => addrLo s.mgmtBase
  | .mgmtBaseHi => bitsAt 0 s.mgmtBaseHi
  | .command => 0
  | .commandResult =>
    bitsAt 0 s.command.code ||| bitsAt 8 s.command.port ||| natAt 16 s.command.outcome.code ||| bitsAt 24 s.command.count
  | .cause => bitsAt 0 s.notice.cause
  | .enable => bitsAt 0 s.notice.enable
  | .active => bitsAt 0 s.notice.active
  | .clear => 0
  | .noticeAck => s.notice.seq
  | .noticeStatus =>
    natAt 0 s.notice.state.code ||| flagAt 4 s.notice.repeatMark ||| flagAt 5 s.notice.repeatDeadline.isSome
  | .noticeAddrLo => addrLo s.notice.addr
  | .noticeAddrHi => addrHi s.notice.addr
  | .noticePort => natAt 0 s.notice.port.code
  | .noticeRepeat => natAt 0 s.notice.repeatMs
  | .noticesSent => s.notice.sent
  | .noticesCancelled => s.notice.cancelled
  | .repeats => s.notice.repeats
  | .up x r => s.readUp x r
  | .down n r => s.readDown n r
  | .ottSummary =>
    natAt 0 s.freeEntries ||| natAt 8 (s.used .u0) ||| natAt 16 (s.used .u1) ||| natAt 24 s.lastGrant.code
  | .matchUnit u r => (s.capture.matchUnit u).read r
  | .combine => natAt 0 s.capture.combine.code
  | .trigger => natAt 0 s.capture.trigger.code
  | .capMgmt => natAt 0 s.capture.capMgmt.code
  | .capDefault => natAt 0 s.capture.capDefault.code
  | .postCount => natAt 0 s.capture.postCount
  | .threshold => natAt 0 s.capture.threshold
  | .mode => natAt 0 s.capture.mode.code
  | .captureStatus =>
    natAt 0 s.capture.state.code ||| natAt 8 s.capture.postRemain ||| natAt 16 s.capture.buffer.length
  | .recordNumber => bitsAt 0 s.capture.nextRseq
  | .captureDropped => s.capture.dropped
  | .captureOverwritten => s.capture.overwritten
  | .release => 0
  | .head w => s.capture.headWord w
  | .staging i w => (s.window i).staging.read w
  | .control _ => 0
  | .activeView i w => (s.window i).view w
  | .ottView t w => (s.entry t).word w

/-! ### Writing settings and actions (R178, R180, R192) -/

/-- The code of an enumerated setting, bits 7 to 0 (R192). -/
def enumCode (v : Word) : Nat := (v.extractLsb' 0 8).toNat

/-- A number in a range, or none (R192). -/
def inRange (lo hi : Nat) (v : Word) : Option Nat := if lo ≤ v.toNat ∧ v.toNat ≤ hi then some v.toNat else none

/-- A match unit with one register written; every value is taken (R163). -/
def MatchUnit.write (m : MatchUnit) (r : MatchReg) (v : Word) : MatchUnit :=
  match r with
  | .sets => { m with kindSet := v.extractLsb' 0 3, portSet := v.extractLsb' 4 2 }
  | .window => { m with windowValue := v.extractLsb' 0 5, windowCare := v.extractLsb' 8 5 }
  | .addrValueLo => { m with addrValue := withLo m.addrValue v }
  | .addrValueHi => { m with addrValue := withHi m.addrValue v }
  | .addrCareLo => { m with addrCare := withLo m.addrCare v }
  | .addrCareHi => { m with addrCare := withHi m.addrCare v }

/-- The capture unit with a register of a match unit written (R163). -/
def Capture.writeUnit (c : Capture) (u : MatchName) (r : MatchReg) (v : Word) : Capture :=
  match u with
  | .a => { c with unitA := c.unitA.write r v }
  | .b => { c with unitB := c.unitB.write r v }

/-- A setting of an upstream port: DEFAULT_ACTION (R57), RESERVE against the other port's reserve (R71). -/
def State.storeUp (s : State) (x : UPort) (r : UpReg) (v : Word) : Option State :=
  match r with
  | .defaultAction => (DefaultAction.ofCode (enumCode v)).map fun a => s.onUp x fun u => { u with defaultAction := a }
  | .reserve =>
    (inRange 0 (Config.reserveLimit - (s.up.get x.other).reserve) v).map fun k => s.onUp x fun u => { u with reserve := k }
  | _ => none

/-- A setting of a downstream port (R96, R105, R139). -/
def State.storeDown (s : State) (n : DPort) (r : DownReg) (v : Word) : Option State :=
  match r with
  | .rspTimeout => (inRange 0 65535 v).map fun k => s.onDown n fun d => { d with rspTimeout := k }
  | .orphanLimit => (inRange 1 32 v).map fun k => s.onDown n fun d => { d with orphanLimit := k }
  | .degOn => (inRange 1 (min 255 (s.down.get n).fenceLimit) v).map fun k => s.onDown n fun d => { d with degOn := k }
  | .degOff => (inRange 1 255 v).map fun k => s.onDown n fun d => { d with degOff := k }
  | .fenceLimit =>
    (inRange (max 1 (s.down.get n).degOn) 255 v).map fun k => s.onDown n fun d => { d with fenceLimit := k }
  | _ => none

/-- NOTICE_ACK: an acknowledgement, or stale and without effect (R172). -/
def NoticeUnit.acknowledge (u : NoticeUnit) (v : Word) : NoticeUnit :=
  if v = u.seq ∧ (u.state = .sent ∨ (u.state = .queued ∧ u.repeatMark)) then
    NoticeUnit.examine { u with state := .idle, repeatMark := false, repeatDeadline := none, seq := u.seq + 1 }
  else u

/-- The low word of NOTICE_ADDR is refused with a one in bit 1 or 0, or with 0xFC in bits 7 to 0 (R175). -/
def noticeAddrRefused (v : Word) : Bool := v.extractLsb' 0 2 != 0 || v.extractLsb' 0 8 == 0xFC

/-- The state with the value of a management write taken by its register, or none where the register refuses it (R180). The
window control word and COMMAND have their own operations. -/
def State.store (s : State) (r : Reg) (v : Word) : Option State :=
  match r with
  | .mgmtPermit => if v.extractLsb' 0 2 = 0 then none else some { s with mgmtPermit := v.extractLsb' 0 2 }
  | .mgmtBaseLo =>
    if v.extractLsb' 0 16 = 0 then some { s with mgmtBase := (s.mgmtBaseHi ++ v : BitVec (16 + 32)) } else none
  | .mgmtBaseHi => some { s with mgmtBaseHi := v.extractLsb' 0 16 }
  | .enable => some (s.onNotice fun u => NoticeUnit.examine { u with enable := v.extractLsb' 0 25 })
  | .clear => some (s.onNotice fun u => { u with cause := u.cause &&& ~~~ v.extractLsb' 0 25 })
  | .noticeAck => some (s.onNotice fun u => u.acknowledge v)
  | .noticeAddrLo =>
    if noticeAddrRefused v then none else some (s.onNotice fun u => { u with addr := withLo u.addr v })
  | .noticeAddrHi => some (s.onNotice fun u => { u with addr := withHi u.addr v })
  | .noticePort => (UPort.ofCode (enumCode v)).map fun x => s.onNotice fun u => { u with port := x }
  | .noticeRepeat => (inRange 0 65535 v).map fun k => s.onNotice fun u => { u with repeatMs := k }
  | .up x r => s.storeUp x r v
  | .down n r => s.storeDown n r v
  | .matchUnit u r => some (s.onCapture fun c => c.writeUnit u r v)
  | .combine => (Combine.ofCode (enumCode v)).map fun k => s.onCapture fun c => { c with combine := k }
  | .trigger => (Trigger.ofCode (enumCode v)).map fun k => s.onCapture fun c => { c with trigger := k }
  | .capMgmt => (CapMode.ofCode (enumCode v)).map fun k => s.onCapture fun c => { c with capMgmt := k }
  | .capDefault => (CapMode.ofCode (enumCode v)).map fun k => s.onCapture fun c => { c with capDefault := k }
  | .postCount => (inRange 0 255 v).map fun k => s.onCapture fun c => { c with postCount := k }
  | .threshold => (inRange 1 256 v).map fun k => s.onCapture fun c => { c with threshold := k }
  | .mode => (OverflowMode.ofCode (enumCode v)).map fun k => s.onCapture fun c => { c with mode := k }
  | .release => some (s.onCapture fun c => { c with buffer := c.buffer.tail })
  | .staging i w => ((s.window i).staging.write w v).map fun c => s.onWindow i fun e => { e with staging := c }
  | .id | .strap | .time | .command | .commandResult | .cause | .active | .noticeStatus | .noticesSent
  | .noticesCancelled | .repeats | .ottSummary | .captureStatus | .recordNumber | .captureDropped
  | .captureOverwritten | .head _ | .control _ | .activeView _ _ | .ottView _ _ => none

/-! ### The window control word (R32 to R37) -/

/-- The COMMIT_STATUS that a COMMIT of this staging record leaves (R33 to R36). -/
def commitOutcome (c : WindowConfig) : CommitStatus := if c.valid then commitCheck c else .ok

/-- A COMMIT of entry i: installs the staging record, or records the failing check (R33, R35, R36). -/
def State.commitWindow (s : State) (i : Fin 16) : State :=
  s.onWindow i fun e =>
    if commitOutcome e.staging = .ok then { e with active := e.staging, status := .ok }
    else { e with status := commitOutcome e.staging }

/-- A DISABLE of entry i (R37). -/
def State.disableWindow (s : State) (i : Fin 16) : State :=
  s.onWindow i fun e => { e with active := { e.active with valid := false } }

/-- What a write of the control word of entry i does: COMMIT 1, DISABLE 2, any other value nothing (R32, section 11.3). -/
def State.runControl (s : State) (i : Fin 16) (v : Word) : State :=
  if v = 1 then s.commitWindow i else if v = 2 then s.disableWindow i else s

/-- Whether a write of the control word of entry i is answered OK (R32 to R37). -/
def State.controlAccepted (s : State) (i : Fin 16) (v : Word) : Bool :=
  if v = 1 then commitOutcome (s.window i).staging == .ok else v == 2

/-! ### The command word (R140 to R143, R162, R184 to R186) -/

/-- OUTCOME of a command of this port argument, in this state (R140 to R143, R162, R185). -/
def State.commandOutcome (s : State) (c : Option Command) (port : BitVec 8) : CommandOutcome :=
  match c with
  | none => .unknown
  | some .softReset => .done
  | some .clearCounters => .done
  | some .captureClear => .done
  | some .captureArm => if s.capture.state = .armed ∨ s.capture.state = .triggered then .unchanged else .done
  | some .captureStop => if s.capture.state = .off then .unchanged else .done
  | some .fence =>
    match DPort.ofCode port.toNat with
    | none => .badPort
    | some n => if (s.down.get n).fenced then .unchanged else .done
  | some .unfence =>
    match DPort.ofCode port.toNat with
    | none => .badPort
    | some n => if !(s.down.get n).fenced then .unchanged else if (s.down.get n).retrained then .done else .notRetrained
  | some .retrain =>
    match DPort.ofCode port.toNat with
    | none => .badPort
    | some n => if (s.down.get n).link = .up then .done else .unchanged

/-- The outcomes that go with an OK answer (R185). -/
def CommandOutcome.accepted : CommandOutcome → Bool
  | .none => true
  | .done => true
  | .unchanged => true
  | .unknown => false
  | .badPort => false
  | .notRetrained => false

/-- OUTCOME of a COMMAND word in this state. -/
def State.outcomeOf (s : State) (v : Word) : CommandOutcome :=
  s.commandOutcome (Command.ofCode (commandCode v).toNat) (commandPort v)

/-- Record a write at COMMAND (R185). -/
def State.recordCommand (s : State) (v : Word) : State :=
  { s with
    command :=
      { code := commandCode v
        port := commandPort v
        outcome := s.outcomeOf v
        count := s.command.count + 1 } }

/-- HITS of every window to 0. -/
def WindowEntry.clearHits (e : WindowEntry) : WindowEntry := { e with hits := 0 }

/-- The capture counters to 0 (R164). -/
def Capture.clearCounters (c : Capture) : Capture := { c with dropped := 0, overwritten := 0 }

/-- The notice counters to 0 (R177). -/
def NoticeUnit.clearCounters (u : NoticeUnit) : NoticeUnit := { u with sent := 0, cancelled := 0, repeats := 0 }

/-- CLEAR_COUNTERS: every counter of the bridge to 0 (R186). -/
def State.clearCounters (s : State) : State :=
  { s with
    up := s.up.map fun u => { u with counters := UpCounters.zero }
    down := s.down.map fun d => { d with counters := DownCounters.zero }
    windows := s.windows.map WindowEntry.clearHits
    capture := s.capture.clearCounters
    notice := s.notice.clearCounters }

/-- CAPTURE_ARM: OFF or FROZEN becomes ARMED (R162). -/
def Capture.arm (c : Capture) : Capture :=
  match c.state with
  | .off => { c with state := .armed }
  | .frozen => { c with state := .armed }
  | .armed => c
  | .triggered => c

/-- CAPTURE_STOP (R162). -/
def Capture.stop (c : Capture) : Capture := { c with state := .off }

/-- CAPTURE_CLEAR (R162). -/
def Capture.clear (c : Capture) : Capture := { c with buffer := [], nextRseq := 0, dropped := 0, overwritten := 0 }

/-- UNFENCE of Dn: the fence flag is cleared where RETRAINED is set (R141). -/
def State.unfence (s : State) (n : DPort) : State :=
  if (s.down.get n).retrained then s.onDown n fun d => { d with fenced := false } else s

/-- RETRAIN of Dn, with the allocation event of its link-down (R142). -/
def State.retrain (s : State) (n : DPort) : State :=
  if (s.down.get n).link = .up then (s.forceDown n).allocate else s

/-- What a known command does beside its record (R140 to R142, R162, R186). SOFT_RESET is taken by dispatch (R187). -/
def State.runCommand (s : State) (c : Command) (port : BitVec 8) : State :=
  match c, DPort.ofCode port.toNat with
  | .fence, some n => s.fenceEvent n .management
  | .unfence, some n => s.unfence n
  | .retrain, some n => s.retrain n
  | .fence, none => s
  | .unfence, none => s
  | .retrain, none => s
  | .clearCounters, _ => s.clearCounters
  | .captureArm, _ => s.onCapture Capture.arm
  | .captureStop, _ => s.onCapture Capture.stop
  | .captureClear, _ => s.onCapture Capture.clear
  | .softReset, _ => s

/-- A write at COMMAND: recorded, and a known command carried out (R184, R185). -/
def State.writeCommand (s : State) (v : Word) : State :=
  match Command.ofCode (commandCode v).toNat with
  | some c => (s.recordCommand v).runCommand c (commandPort v)
  | none => s.recordCommand v

/-! ### A management write as a whole -/

/-- Whether the register accepts the value, so that a WR is answered OK (R52, R180). -/
def State.accepts (s : State) (r : Reg) (v : Word) : Bool :=
  match r with
  | .control i => s.controlAccepted i v
  | .command => (s.outcomeOf v).accepted
  | _ => (s.store r v).isSome

/-- What the access does, accepted or refused, with the effects that follow from the new value: the allocation event of a
reserve (R71, R73), the orphan limit test (R105, R106). -/
def State.access (s : State) (r : Reg) (v : Word) : State :=
  match r with
  | .control i => s.runControl i v
  | .command => s.writeCommand v
  | .up _ .reserve => (s.store r v).elim s State.allocate
  | .down n .orphanLimit => (s.store r v).elim s fun s => s.orphanTestEvent n
  | _ => (s.store r v).getD s

/-- The cause of a refused write: COMMIT_REFUSED for a refused commit, else DENIED (R36, R180). -/
def refusalCause (r : Reg) (v : Word) : Cause :=
  match r with
  | .control _ => if v = 1 then .commitRefused else .denied
  | _ => .denied

end Sys2Proof.Machine
end

