-- ==== Sys2Proof/Machine/Resets.lean ====
section
/-! DEFINITION. Soft reset (R68, R91, R135, R165, R177, R187, R188), POWER_ON_RESET and RESET_N_ASSERTED (R190). -/

namespace Sys2Proof.Machine

/-! ### Soft reset -/

/-- The fences are cleared once every downstream port is DOWN (R135, R187). -/
def Downstream.clearFence (d : Downstream) : Downstream := { d with fenced := false, reason := .none, retrained := false }

/-- Step 2: every downstream port that is UP is forced DOWN, D0 to D3; then the fences are cleared (R187). -/
def State.softDownstream (s : State) : State :=
  let s := DPort.all.foldl State.forceDown s
  { s with down := s.down.map Downstream.clearFence }

/-- A queued request answered by soft reset: UNAVAILABLE, or dropped if a PW; its credit is returned (R68). -/
def State.softAnswer (x : UPort) (s : State) (r : Request) : State :=
  (s.answer x r .unavailable).onUp x fun u => { u with pendingCredits := satInc u.pendingCredits }

/-- Step 3 for one port: every request of its ingress queue in arrival order, without decode (R68, R188). -/
def State.softQueue (s : State) (x : UPort) : State :=
  ((s.up.get x).ingress.foldl (State.softAnswer x) s).onUp x fun u => { u with ingress := [], waiting := none }

/-- The soft-reset values of the capture unit (R165). -/
def Capture.soft (c : Capture) : Capture :=
  { c with state := .off, buffer := [], nextRseq := 0, postRemain := 0, dropped := 0, overwritten := 0 }

/-- The soft-reset values of the notice unit (R177). -/
def NoticeUnit.soft (u : NoticeUnit) : NoticeUnit :=
  { u with
    cause := 0
    state := .idle
    repeatMark := false
    repeatDeadline := none
    seq := 0
    sent := 0
    cancelled := 0
    repeats := 0 }

/-- Step 4: the soft-reset values of every block (R188). -/
def State.softValues (s : State) : State :=
  { s with
    windows := Vector.replicate 16 WindowEntry.zero
    ott := Vector.replicate 128 OttEntry.zero
    lastGrant := .u1
    up := s.up.map fun u => { u with counters := UpCounters.zero }
    down := s.down.map fun d => { d with admission := .u1, counters := DownCounters.zero }
    capture := s.capture.soft
    notice := s.notice.soft
    time := 0 }

/-- SOFT_RESET, carried by the head r of Ux with this COMMAND word, in four steps; its count in MGMT_DONE and its handing
come after the last step (R150, R187, R188). -/
def State.softReset (s : State) (x : UPort) (r : Request) (v : Word) : State :=
  let s := ((s.recordCommand v).answer x r .ok).popHead x
  let s := s.softDownstream
  let s := (s.softQueue .u0).softQueue .u1
  let s := s.softValues
  let h : Handing :=
    { port := x
      request := r
      code := .mgmt
      disposition := .mgmtDone
      forward := none }
  (s.countUp x fun c => c.countHead .mgmtDone r.kind).handRequest h

/-! ### Power-on reset -/

/-- The power-on state for this MSEL, beside the model's own fields, which a reset of the part leaves (logs 13, 15). -/
def State.powered (s : State) (msel : BitVec 4) : State :=
  { State.powerOn msel with choices := s.choices, outputs := s.outputs, pending := s.pending }

/-- POWER_ON_RESET: RESET_N is released and MSEL sampled (R190). -/
def execPowerOnReset (msel : BitVec 4) (s : State) : Result := .next (s.powered msel)

/-- RESET_N_ASSERTED: the bridge is held in its power-on state; STRAP is sampled at the release (R190; log 15). -/
def execResetNAsserted (s : State) : Result := .next { s.powered s.strap with held := true }

end Sys2Proof.Machine
end

