-- ==== Sys2Proof/Machine/Ingress.lean ====
section
/-! DEFINITION. The dispatch of a head: the steps of its decode (R47 to R56), the management access it performs (R51, R52),
its forwarding (R60), and DISPATCH and FORWARDING. -/

namespace Sys2Proof.Machine

/-- What the decode of a head comes to (R49 to R56). -/
inductive HeadOutcome where
  /-- Duplicate live tag (R49). -/
  | rejected
  /-- Length or block rule broken (R50). -/
  | illFormed
  /-- Aperture hit, refused before the access with this disposition and status (R51, R52). -/
  | mgmtRefused (d : Disposition) (status : Status)
  /-- Aperture hit, a read of an assigned register (R52). -/
  | mgmtRead (r : Reg)
  /-- Aperture hit, a write of a writable register (R52). -/
  | mgmtWrite (r : Reg) (v : Word)
  /-- Window selected: REFUSED or NOT_PERMITTED (R53). -/
  | windowDenied (i : Fin 16) (mode : CapMode)
  /-- FORWARD toward a port that is DOWN or fenced (R54). -/
  | unavailable (i : Fin 16) (mode : CapMode)
  /-- FORWARD toward a port in service (R54). -/
  | forward (d : Decoded)
  /-- No hit: the default action of the port (R55, R56). -/
  | noHit (a : DefaultAction)
  deriving DecidableEq, Repr

/-- Steps 3 and 4: the decode of a well-formed request that hits the aperture (R51, R52). -/
def State.decodeMgmt (s : State) (x : UPort) (r : Request) : HeadOutcome :=
  let off := (r.addr - s.mgmtBase).toNat
  if ¬ s.permitted x then .mgmtRefused .denied .denied
  else if r.len.toNat ≠ 4 ∨ off % 4 ≠ 0 then .mgmtRefused .malformed .malformed
  else
    match regAt off with
    | none => .mgmtRefused .unmapped .unmapped
    | some reg =>
      if r.kind = .rd then .mgmtRead reg
      else if reg.writable then .mgmtWrite reg (wordOfData r.data)
      else .mgmtRefused .denied .denied

/-- Steps 5 and 6: the decode through the selected window (R24, R53, R54). -/
def State.decodeWindow (s : State) (r : Request) (i : Fin 16) : HeadOutcome :=
  let c := (s.window i).active
  if c.targetKind = .refuse ∨ ¬ c.permit.getLsbD r.kind.code then .windowDenied i c.capture
  else if s.available (c.egressPort r.addr) then
    .forward
      { window := i
        egress := c.egressPort r.addr
        xaddr := c.translate r.addr
        capture := c.capture }
  else .unavailable i c.capture

/-- The steps of dispatch in their order; the first that decides ends them (section 3.2). -/
def State.decodeHead (s : State) (x : UPort) (r : Request) : HeadOutcome :=
  if r.kind ≠ .pw ∧ s.tagLive x r.tag then .rejected
  else if ¬ r.wellFormed then .illFormed
  else if s.hitsAperture r.addr then s.decodeMgmt x r
  else
    match s.windowSearch x r.addr with
    | some i => s.decodeWindow r i
    | none => .noHit (s.up.get x).defaultAction

/-- The undecoded head of Ux with what its decode comes to. -/
def State.headOutcome (s : State) (x : UPort) : Option (Request × HeadOutcome) :=
  (s.undecodedHead x).map fun r => (r, s.decodeHead x r)

/-- HITS of a selected entry counts with the decode (R30). -/
def State.countHit (s : State) (i : Fin 16) : State := s.onWindow i fun e => { e with hits := satInc e.hits }

/-- The answer to a management read (R58, R179). -/
def readPart (tag : Tag) (w : Word) : Part where
  tag := tag
  status := .ok
  last := true
  data := wordBytes w

/-- A management read is performed and answered (R52, R179). -/
def State.performRead (s : State) (x : UPort) (r : Request) (reg : Reg) : State :=
  (s.placePart x (readPart r.tag (s.readReg reg))).resolveHead x r .mgmt .mgmtDone none none

/-- A management write: answered first, then performed with its effects, then resolved (R52, R133, R150, R180; log 18). -/
def State.performWrite (s : State) (x : UPort) (r : Request) (reg : Reg) (v : Word) : State :=
  if reg = .command ∧ Command.ofCode (commandCode v).toNat = some .softReset then s.softReset x r v
  else if s.accepts reg v then
    ((s.answer x r .ok).access reg v).resolveHead x r .mgmt .mgmtDone none none
  else
    ((s.answer x r .denied).access reg v).resolveHead x r .mgmt .denied (some (refusalCause reg v)) none

/-- A no-hit head under ZERO_FILL (R56). -/
def State.zeroFill (s : State) (x : UPort) (r : Request) : State :=
  let answered := match r.kind with
    | .rd => s.placeParts x (zeroParts r.tag r.len.toNat)
    | .wr => s.placePart x (Part.final r.tag .ok)
    | .pw => s
  answered.resolveHead x r .noHit .zeroFilled none none

/-- The effect of a decode: the head is resolved, or waits until the allocation event of its decode forwards it
(R48 to R56, R60, R61, R73). -/
def State.resolveOutcome (s : State) (x : UPort) (r : Request) : HeadOutcome → State
  | .rejected => s.resolveHead x r .undecoded .rejected Disposition.rejected.cause none
  | .illFormed => s.refuseHead x r .undecoded .malformed .malformed
  | .mgmtRefused d status => s.refuseHead x r .mgmt d status
  | .mgmtRead reg => s.performRead x r reg
  | .mgmtWrite reg v => s.performWrite x r reg v
  | .windowDenied i mode => (s.countHit i).refuseHead x r (.window i mode) .denied .denied
  | .unavailable i mode => (s.countHit i).refuseHead x r (.window i mode) .unavailable .unavailable
  | .forward d => ((s.countHit d.window).onUp x fun u => { u with waiting := some d }).allocate
  | .noHit .unmappedError => s.refuseHead x r .noHit .unmapped .unmapped
  | .noHit .zeroFill => s.zeroFill x r

/-- The dispatch of the head of Ux, where it has one whose decode has not been taken (R47; logs 4, 5). -/
def State.dispatch (s : State) (x : UPort) : State :=
  match s.headOutcome x with
  | some (r, o) => s.resolveOutcome x r o
  | none => s

/-- The forwarding of the head of Ux: at its decode, or, for a waiting head, by the allocation event that finds its
resources free (R60, R61; log 7). -/
def State.forwardHead (s : State) (x : UPort) : State :=
  match s.headOutcome x with
  | some (r, .forward d) => s.resolveOutcome x r (.forward d)
  | some _ => s
  | none => if (s.waitingHead x).isSome then s.allocate else s

/-- The dispatch of the head of Ux where it is a management write that `row` names; any other head is not that row's event
(logs 4, 6). -/
def State.dispatchWrite (s : State) (x : UPort) (row : Reg → Word → Bool) : State :=
  match s.headOutcome x with
  | some (r, .mgmtWrite reg v) => if row reg v then s.resolveOutcome x r (.mgmtWrite reg v) else s
  | _ => s

/-- DISPATCH (R47). -/
def execDispatch (x : UPort) (s : State) : Result := whileRunning s fun s => s.dispatch x

/-- FORWARDING (R60). -/
def execForwarding (x : UPort) (s : State) : Result := whileRunning s fun s => s.forwardHead x

end Sys2Proof.Machine
end

