-- ==== Sys2Proof/Machine/Commands.lean ====
section
/-! DEFINITION. The rows that are management writes: each is the dispatch of a head of Ux that carries it (log 6). -/

namespace Sys2Proof.Machine

/-- The COMMAND word carries this command. -/
def carries (c : Command) (reg : Reg) (v : Word) : Bool :=
  reg == .command && Command.ofCode (commandCode v).toNat == some c

/-- The COMMAND word carries this command with this port argument. -/
def carriesFor (c : Command) (arg : BitVec 8) (reg : Reg) (v : Word) : Bool := carries c reg v && commandPort v == arg

/-- The write is of this register with this value. -/
def writes (reg : Reg) (v : Word) (reg' : Reg) (v' : Word) : Bool := reg' == reg && v' == v

/-- SOFT_RESET (R187). -/
def execSoftReset (x : UPort) (s : State) : Result := whileRunning s fun s => s.dispatchWrite x (carries .softReset)

/-- FENCE_COMMAND (R140, R143). -/
def execFenceCommand (x : UPort) (arg : BitVec 8) (s : State) : Result :=
  whileRunning s fun s => s.dispatchWrite x (carriesFor .fence arg)

/-- UNFENCE (R141, R143). -/
def execUnfence (x : UPort) (arg : BitVec 8) (s : State) : Result :=
  whileRunning s fun s => s.dispatchWrite x (carriesFor .unfence arg)

/-- RETRAIN (R142, R143). -/
def execRetrain (x : UPort) (arg : BitVec 8) (s : State) : Result :=
  whileRunning s fun s => s.dispatchWrite x (carriesFor .retrain arg)

/-- CLEAR_COUNTERS (R186). -/
def execClearCounters (x : UPort) (s : State) : Result := whileRunning s fun s => s.dispatchWrite x (carries .clearCounters)

/-- CAPTURE_ARM (R162). -/
def execCaptureArm (x : UPort) (s : State) : Result := whileRunning s fun s => s.dispatchWrite x (carries .captureArm)

/-- CAPTURE_STOP (R162). -/
def execCaptureStop (x : UPort) (s : State) : Result := whileRunning s fun s => s.dispatchWrite x (carries .captureStop)

/-- CAPTURE_CLEAR (R162). -/
def execCaptureClear (x : UPort) (s : State) : Result := whileRunning s fun s => s.dispatchWrite x (carries .captureClear)

/-- UNKNOWN_COMMAND (R184): the code names no command. -/
def execUnknownCommand (x : UPort) (code : BitVec 8) (s : State) : Result :=
  whileRunning s fun s => s.dispatchWrite x fun reg v =>
    reg == .command && commandCode v == code && Command.ofCode code.toNat == none

/-- COMMIT of entry i (R32 to R36). -/
def execCommit (x : UPort) (i : Fin 16) (s : State) : Result := whileRunning s fun s => s.dispatchWrite x (writes (.control i) 1)

/-- DISABLE of entry i (R37). -/
def execDisable (x : UPort) (i : Fin 16) (s : State) : Result := whileRunning s fun s => s.dispatchWrite x (writes (.control i) 2)

/-- MGMT_BASE_LO_WRITE (R43, R44). -/
def execMgmtBaseLoWrite (x : UPort) (v : Word) (s : State) : Result :=
  whileRunning s fun s => s.dispatchWrite x (writes .mgmtBaseLo v)

/-- RESERVE_WRITE (R71). -/
def execReserveWrite (x : UPort) (p : UPort) (v : Word) (s : State) : Result :=
  whileRunning s fun s => s.dispatchWrite x (writes (.up p .reserve) v)

/-- ORPHAN_LIMIT_WRITE (R105, R106). -/
def execOrphanLimitWrite (x : UPort) (n : DPort) (v : Word) (s : State) : Result :=
  whileRunning s fun s => s.dispatchWrite x (writes (.down n .orphanLimit) v)

/-- ENABLE_WRITE (R167). -/
def execEnableWrite (x : UPort) (v : Word) (s : State) : Result := whileRunning s fun s => s.dispatchWrite x (writes .enable v)

/-- CLEAR_WRITE (R168). -/
def execClearWrite (x : UPort) (v : Word) (s : State) : Result := whileRunning s fun s => s.dispatchWrite x (writes .clear v)

/-- NOTICE_ACK (R172). -/
def execNoticeAck (x : UPort) (v : Word) (s : State) : Result := whileRunning s fun s => s.dispatchWrite x (writes .noticeAck v)

/-- CAPTURE_RELEASE (R161): the value written has no effect. -/
def execCaptureRelease (x : UPort) (s : State) : Result := whileRunning s fun s => s.dispatchWrite x fun reg _ => reg == .release

/-- SETTING_WRITE (R180): of a setting that no other row writes. -/
def execSettingWrite (x : UPort) (r : Reg) (v : Word) (s : State) : Result :=
  whileRunning s fun s => s.dispatchWrite x fun reg v' => writes r v reg v' && r.plainSetting

end Sys2Proof.Machine
end

