-- ==== Sys2Proof/Machine/Links.lean ====
section
/-! DEFINITION. The link events of the six ports: UPSTREAM_LINK_UP, UPSTREAM_LINK_DOWN, DOWNSTREAM_LINK_UP,
DOWNSTREAM_LINK_DOWN. -/

namespace Sys2Proof.Machine

/-- Link-up of Ux; ignored for a port that is UP (R67, R144). -/
def State.upstreamLinkUp (s : State) (x : UPort) : State :=
  if (s.up.get x).link = .up then s
  else
    (s.onUp x fun u =>
      { u with
        link := .up
        ingress := []
        waiting := none
        returnQueue := []
        pendingCredits := BitVec.ofNat 32 Config.ingressCapacity
        credits := 0
        turn := .notice
        counters := { u.counters with linkUps := satInc u.counters.linkUps } }).raise (.linkChangeU x)

/-- What the link-down of Ux does to entry t (R90). -/
def State.departEntry (x : UPort) (s : State) (t : Fin 128) : State :=
  if (s.entry t).src ≠ x then s
  else
    match (s.entry t).state with
    | .pending => (s.dropItem t).release t
    | .issued => s.orphan t
    | .streaming => s.orphan t
    | .orphan => s
    | .free => s

/-- The handing of a waiting head lost at the link-down of its port (R66). -/
def droppedHanding (x : UPort) (r : Request) (d : Decoded) : Handing where
  port := x
  request := r
  code := .window d.window d.capture
  disposition := .dropped
  forward := none

/-- Link-down of Ux; ignored for a port that is DOWN. The queues and credits (R66), the DROPPED handing of a waiting head
(log 11), the entries of Ux, then the orphan limit tests of D0 to D3 (R90), then the allocation event (log 8). -/
def State.upstreamLinkDown (s : State) (x : UPort) : State :=
  if (s.up.get x).link = .down then s
  else
    let lost := s.waitingHead x
    let s := s.onUp x fun u =>
      { u with
        link := .down
        ingress := []
        waiting := none
        returnQueue := []
        pendingCredits := 0
        credits := 0
        counters := { u.counters with linkDowns := satInc u.counters.linkDowns } }
    let s := s.raise (.linkChangeU x)
    let s := match lost with
      | some (r, d) => s.handRequest (droppedHanding x r d)
      | none => s
    let s := ottIndices.foldl (State.departEntry x) s
    (DPort.all.foldl State.orphanTest s).allocate

/-- Link-up of Dn; ignored for a port that is UP (R129). -/
def State.downstreamLinkUp (s : State) (n : DPort) : State :=
  if (s.down.get n).link = .up then s
  else
    (s.onDown n fun d =>
      { d with
        link := .up
        credits := 0
        counters := { d.counters with linkUps := satInc d.counters.linkUps } }).raise (.linkChange n)

/-- Link-down of Dn reported by the physical layer; ignored for a port that is DOWN (R130). -/
def State.downstreamLinkDown (s : State) (n : DPort) : State :=
  if (s.down.get n).link = .down then s else (s.linkDown n).allocate

/-- UPSTREAM_LINK_UP (R67, R144). -/
def execUpstreamLinkUp (x : UPort) (s : State) : Result := whileRunning s fun s => s.upstreamLinkUp x

/-- UPSTREAM_LINK_DOWN (R66, R90, R144). -/
def execUpstreamLinkDown (x : UPort) (s : State) : Result := whileRunning s fun s => s.upstreamLinkDown x

/-- DOWNSTREAM_LINK_UP (R129). -/
def execDownstreamLinkUp (n : DPort) (s : State) : Result := whileRunning s fun s => s.downstreamLinkUp n

/-- DOWNSTREAM_LINK_DOWN (R130). -/
def execDownstreamLinkDown (n : DPort) (s : State) : Result := whileRunning s fun s => s.downstreamLinkDown n

end Sys2Proof.Machine
end

