-- ==== Sys2Proof/Machine/Transmit.lean ====
section
/-! DEFINITION. What the transmitters take: ISSUE on downstream ports (R115), CR_TRANSMIT, RESPONSE_PART_TRANSMIT and
NOTICE_TRANSMIT on upstream ports (R121 to R124, R170, R171). Each command says that the transmitter is ready (log 19). -/

namespace Sys2Proof.Machine

/-- The request transmitted for an egress item (R4 to R6, R77, R115). -/
def State.requestOfItem (s : State) : EgressItem → Request
  | .entry t data =>
    let e := s.entry t
    { kind := match e.kind with
        | .rd => .rd
        | .wr => .wr
      tag := BitVec.ofNat 8 t.val
      addr := e.xaddr
      len := BitVec.ofNat 9 e.len
      data := data }
  | .posted xaddr len data =>
    { kind := .pw
      tag := 0
      addr := xaddr
      len := len
      data := data }

/-- The entry of an issued item becomes ISSUED (R77). -/
def State.issueEntry (s : State) : EgressItem → State
  | .entry t _ => s.onEntry t fun e => { e with state := .issued }
  | .posted _ _ _ => s

/-- The issue of the head item of Dn, when its conditions hold together (R115). -/
def State.issueHead (s : State) (n : DPort) : State :=
  match (s.down.get n).egress with
  | [] => s
  | item :: rest =>
    if s.available n ∧ 1 ≤ (s.down.get n).credits then
      let s := s.emit (.message (.down n) (.request (s.requestOfItem item)))
      let s := s.onDown n fun d =>
        { d with
          egress := rest
          credits := d.credits - 1
          counters := { d.counters with requestsSent := satInc d.counters.requestsSent } }
      (s.issueEntry item).allocate
    else s

/-- COUNT of the CR that Ux sends: the pending count, or 64 if it is greater (R122). -/
def State.crCount (s : State) (x : UPort) : Nat := min (s.up.get x).pendingCredits.toNat Config.creditLimit

/-- Transmit a CR on Ux (R15, R122). -/
def State.sendCr (s : State) (x : UPort) : State :=
  (s.emit (.message (.up x) (.cr (BitVec.ofNat 7 (s.crCount x))))).onUp x fun u =>
    { u with pendingCredits := u.pendingCredits - BitVec.ofNat 32 (s.crCount x) }

/-- Transmit the head of the return queue of Ux (R123). -/
def State.sendPart (s : State) (x : UPort) : State :=
  match (s.up.get x).returnQueue with
  | [] => s
  | p :: rest =>
    (s.emit (.message (.up x) (.rsp p))).onUp x fun u => { u with returnQueue := rest, turn := .returned }

/-- The notice of a snapshot: a PW of LEN 8 with TAG 0 to NOTICE_ADDR, carrying the snapshot and SEQ (R171, section 11.2). -/
def NoticeUnit.message (u : NoticeUnit) : Request where
  kind := .pw
  tag := 0
  addr := u.addr
  len := 8
  data := wordBytes (u.active.setWidth 32) ++ wordBytes u.seq

/-- The notice unit after a transmission at `now` (R171). -/
def NoticeUnit.transmitted (u : NoticeUnit) (now : Word) : NoticeUnit :=
  { u with
    state := .sent
    repeatMark := false
    repeatDeadline := if u.repeatMs = 0 then none else some (now + BitVec.ofNat 32 (u.repeatMs * 1000))
    sent := satInc u.sent }

/-- The notice unit after a cancellation (R170). -/
def NoticeUnit.cancel (u : NoticeUnit) : NoticeUnit :=
  { u with state := .idle, repeatMark := false, repeatDeadline := none, cancelled := satInc u.cancelled }

/-- The chosen notice of Ux: transmitted, or cancelled with an empty snapshot, whereupon a part that is waiting goes out in
the same opportunity (R124, R170, R171; log 12). -/
def State.sendNotice (s : State) (x : UPort) : State :=
  if s.notice.active = 0 then (s.onNotice NoticeUnit.cancel).sendPart x
  else
    ((s.emit (.message (.up x) (.request s.notice.message))).onUp x fun u =>
      { u with credits := u.credits - 1, turn := .notice }).onNotice fun u => u.transmitted s.time

/-- ISSUE (R115). -/
def execIssue (n : DPort) (s : State) : Result := whileRunning s fun s => s.issueHead n

/-- CR_TRANSMIT (R122): where the arbiter chooses the CR. -/
def execCrTransmit (x : UPort) (s : State) : Result :=
  whileRunning s fun s => if s.arbiterChoice x = some .cr then s.sendCr x else s

/-- RESPONSE_PART_TRANSMIT (R123): where the arbiter chooses the part. -/
def execResponsePartTransmit (x : UPort) (s : State) : Result :=
  whileRunning s fun s => if s.arbiterChoice x = some .part then s.sendPart x else s

/-- NOTICE_TRANSMIT (R124, R171): where the arbiter chooses the notice. -/
def execNoticeTransmit (x : UPort) (s : State) : Result :=
  whileRunning s fun s => if s.arbiterChoice x = some .notice then s.sendNotice x else s

end Sys2Proof.Machine
end

