-- ==== Sys2Proof/Machine/Dispatch.lean ====
section
/-! DEFINITION. One arm for each command. -/

namespace Sys2Proof.Machine

def exec (i : Instr) (s : State) : Host.Outcome State Fault Refusal :=
  match i with
  | .powerOnReset msel => Sys2Proof.Machine.execPowerOnReset msel s
  | .upstreamLinkUp x => Sys2Proof.Machine.execUpstreamLinkUp x s
  | .upstreamLinkDown x => Sys2Proof.Machine.execUpstreamLinkDown x s
  | .downstreamLinkUp n => Sys2Proof.Machine.execDownstreamLinkUp n s
  | .downstreamLinkDown n => Sys2Proof.Machine.execDownstreamLinkDown n s
  | .requestArrival x r => Sys2Proof.Machine.execRequestArrival x r s
  | .upstreamCrArrival x count => Sys2Proof.Machine.execUpstreamCrArrival x count s
  | .partArrival n p => Sys2Proof.Machine.execPartArrival n p s
  | .downstreamCrArrival n count => Sys2Proof.Machine.execDownstreamCrArrival n count s
  | .damagedMessageArrival p delivered => Sys2Proof.Machine.execDamagedMessageArrival p delivered s
  | .misdirectedMessageArrival m => Sys2Proof.Machine.execMisdirectedMessageArrival m s
  | .dispatch x => Sys2Proof.Machine.execDispatch x s
  | .forwarding x => Sys2Proof.Machine.execForwarding x s
  | .issue n => Sys2Proof.Machine.execIssue n s
  | .crTransmit x => Sys2Proof.Machine.execCrTransmit x s
  | .responsePartTransmit x => Sys2Proof.Machine.execResponsePartTransmit x s
  | .noticeTransmit x => Sys2Proof.Machine.execNoticeTransmit x s
  | .expiry t => Sys2Proof.Machine.execExpiry t s
  | .repeatExpiry => Sys2Proof.Machine.execRepeatExpiry s
  | .softReset x => Sys2Proof.Machine.execSoftReset x s
  | .fenceCommand x arg => Sys2Proof.Machine.execFenceCommand x arg s
  | .unfence x arg => Sys2Proof.Machine.execUnfence x arg s
  | .retrain x arg => Sys2Proof.Machine.execRetrain x arg s
  | .clearCounters x => Sys2Proof.Machine.execClearCounters x s
  | .captureArm x => Sys2Proof.Machine.execCaptureArm x s
  | .captureStop x => Sys2Proof.Machine.execCaptureStop x s
  | .captureClear x => Sys2Proof.Machine.execCaptureClear x s
  | .unknownCommand x code => Sys2Proof.Machine.execUnknownCommand x code s
  | .commit x k => Sys2Proof.Machine.execCommit x k s
  | .disable x k => Sys2Proof.Machine.execDisable x k s
  | .mgmtBaseLoWrite x v => Sys2Proof.Machine.execMgmtBaseLoWrite x v s
  | .reserveWrite x p v => Sys2Proof.Machine.execReserveWrite x p v s
  | .orphanLimitWrite x n v => Sys2Proof.Machine.execOrphanLimitWrite x n v s
  | .enableWrite x v => Sys2Proof.Machine.execEnableWrite x v s
  | .clearWrite x v => Sys2Proof.Machine.execClearWrite x v s
  | .noticeAck x v => Sys2Proof.Machine.execNoticeAck x v s
  | .captureRelease x => Sys2Proof.Machine.execCaptureRelease x s
  | .settingWrite x r v => Sys2Proof.Machine.execSettingWrite x r v s
  | .timeAdvance => Sys2Proof.Machine.execTimeAdvance s
  | .resetNAsserted => Sys2Proof.Machine.execResetNAsserted s

end Sys2Proof.Machine
end

