-- ==== Sys2Proof/Safety.lean ====
section
/-! DEFINITION. What a safe run of the bridge keeps, in the terms the statements use: the settings of the bridge, the
invariants that the manual's chapters promise, and the vocabulary of the statements about single commands. -/

namespace Sys2Proof.Machine

/-! ### The settings (R178) -/

/-- The settings of the capture unit (R163). -/
structure CaptureSettings where
  unitA      : MatchUnit
  unitB      : MatchUnit
  combine    : Combine
  trigger    : Trigger
  capMgmt    : CapMode
  capDefault : CapMode
  postCount  : Nat
  threshold  : Nat
  mode       : OverflowMode
  deriving DecidableEq, Repr

/-- The settings of a downstream port (R96, R105, R139). -/
structure DownSettings where
  rspTimeout  : Nat
  orphanLimit : Nat
  degOn       : Nat
  degOff      : Nat
  fenceLimit  : Nat
  deriving DecidableEq, Repr

/-- Everything that software configures: the base and the permission of the aperture, the settings of every port, the
window records, the settings of the capture unit and of the notice unit. -/
structure Settings where
  mgmtBase   : Addr
  mgmtBaseHi : BitVec 16
  mgmtPermit : BitVec 2
  up         : PerUp (DefaultAction × Nat)
  down       : PerDown DownSettings
  windows    : List (WindowConfig × WindowConfig)
  capture    : CaptureSettings
  enable     : BitVec 25
  noticeAddr : Addr
  noticePort : UPort
  repeatMs   : Nat
  deriving DecidableEq, Repr

/-- The settings a downstream port holds. -/
def Downstream.settings (d : Downstream) : DownSettings where
  rspTimeout := d.rspTimeout
  orphanLimit := d.orphanLimit
  degOn := d.degOn
  degOff := d.degOff
  fenceLimit := d.fenceLimit

/-- The settings an upstream port holds. -/
def Upstream.settings (u : Upstream) : DefaultAction × Nat := (u.defaultAction, u.reserve)

/-- The settings the capture unit holds. -/
def Capture.settings (c : Capture) : CaptureSettings where
  unitA := c.unitA
  unitB := c.unitB
  combine := c.combine
  trigger := c.trigger
  capMgmt := c.capMgmt
  capDefault := c.capDefault
  postCount := c.postCount
  threshold := c.threshold
  mode := c.mode

/-- The configurable fields of a window entry, active and staging. -/
def WindowEntry.settings (e : WindowEntry) : WindowConfig × WindowConfig := (e.active, e.staging)

/-- The settings a state holds. -/
def State.settings (s : State) : Settings where
  mgmtBase := s.mgmtBase
  mgmtBaseHi := s.mgmtBaseHi
  mgmtPermit := s.mgmtPermit
  up := s.up.map Upstream.settings
  down := s.down.map Downstream.settings
  windows := s.windows.toList.map WindowEntry.settings
  capture := s.capture.settings
  enable := s.notice.enable
  noticeAddr := s.notice.addr
  noticePort := s.notice.port
  repeatMs := s.notice.repeatMs

/-! ### Invariants -/

/-- Every active window entry with VALID set satisfies all commit checks (R34). -/
def State.WindowsChecked (s : State) : Prop :=
  ∀ i, (s.window i).active.valid = true → commitCheck (s.window i).active = .ok

/-- Every queue is within its capacity (R45, R112, R127, R157). -/
def State.QueuesBounded (s : State) : Prop :=
  (∀ x, (s.up.get x).ingress.length ≤ Config.ingressCapacity ∧ (s.up.get x).returnQueue.length ≤ Config.returnCapacity)
    ∧ (∀ n, (s.down.get n).egress.length ≤ Config.egressCapacity)
    ∧ s.capture.buffer.length ≤ Config.captureCapacity

/-- Every setting is in its range, with the constraints between settings (R41, R71, R96, R105, R139, R163, R175, R181). -/
def State.SettingsInRange (s : State) : Prop :=
  (s.up.get .u0).reserve + (s.up.get .u1).reserve ≤ Config.reserveLimit
    ∧ (∀ n, (s.down.get n).rspTimeout ≤ 65535
        ∧ 1 ≤ (s.down.get n).orphanLimit ∧ (s.down.get n).orphanLimit ≤ 32
        ∧ 1 ≤ (s.down.get n).degOn ∧ (s.down.get n).degOn ≤ (s.down.get n).fenceLimit ∧ (s.down.get n).fenceLimit ≤ 255
        ∧ 1 ≤ (s.down.get n).degOff ∧ (s.down.get n).degOff ≤ 255)
    ∧ s.capture.postCount ≤ 255 ∧ 1 ≤ s.capture.threshold ∧ s.capture.threshold ≤ 256
    ∧ s.notice.repeatMs ≤ 65535
    ∧ s.notice.addr.toNat % 4 = 0 ∧ s.notice.addr.toNat % 256 ≠ 252
    ∧ s.mgmtPermit ≠ 0
    ∧ s.mgmtBase.toNat % 65536 = 0

/-- Both kinds of credit count are at most 64; a DOWN port holds none and owes none, and no request is queued on it
(R15, R16, R66, R116, R130). -/
def State.CreditsInRange (s : State) : Prop :=
  (∀ x, (s.up.get x).credits ≤ Config.creditLimit
      ∧ ((s.up.get x).link = .down →
          (s.up.get x).credits = 0 ∧ (s.up.get x).pendingCredits = 0 ∧ (s.up.get x).ingress = []))
    ∧ (∀ n, (s.down.get n).credits ≤ Config.creditLimit ∧ ((s.down.get n).link = .down → (s.down.get n).credits = 0))

/-- The notice unit: no active cause is left behind in IDLE (R169), a repeat deadline stands in SENT alone (R171, R172), and
the repeat mark in QUEUED alone (R173). -/
def State.NoticeConsistent (s : State) : Prop :=
  (s.notice.state = .idle → s.notice.active = 0)
    ∧ (s.notice.repeatDeadline.isSome = true → s.notice.state = .sent)
    ∧ (s.notice.repeatMark = true → s.notice.state = .queued)

/-- The capture unit: the records of the buffer hold consecutive sequence numbers up to the next one (R157), and TRIGGERED
still has records to take (R153, R154). -/
def State.CaptureConsistent (s : State) : Prop :=
  (∀ k : Nat, ∀ r : Record, s.capture.buffer[k]? = some r →
      r.rseq = s.capture.nextRseq - BitVec.ofNat 16 (s.capture.buffer.length - k))
    ∧ (s.capture.state = .triggered → 0 < s.capture.postRemain)

/-- Whether an egress item stands for entry t. -/
def EgressItem.standsFor (t : Fin 128) : EgressItem → Bool
  | .entry t' _ => t' == t
  | .posted _ _ _ => false

/-- Every PENDING entry has exactly one item, in the egress queue of its EGRESS, and no entry in another state has an item
(R76); a DOWN port has no items (R119). -/
def State.ItemsMatch (s : State) : Prop :=
  (∀ n t, (s.down.get n).egress.countP (EgressItem.standsFor t)
      = if (s.entry t).state = .pending ∧ (s.entry t).egress = n then 1 else 0)
    ∧ (∀ n, (s.down.get n).link = .down → (s.down.get n).egress = [])

/-- No two live entries share a source port and tag, nor does a waiting RD or WR head with a live entry of its port (R49);
a decode result is kept for a head alone (R61). -/
def State.TagsUnique (s : State) : Prop :=
  (∀ t u, (s.entry t).state.live = true → (s.entry u).state.live = true → (s.entry t).src = (s.entry u).src →
      (s.entry t).srcTag = (s.entry u).srcTag → t = u)
    ∧ (∀ x r d, s.waitingHead x = some (r, d) → r.kind ≠ .pw → s.tagLive x r.tag = false)
    ∧ (∀ x, (s.up.get x).waiting.isSome = true → (s.up.get x).ingress ≠ [])

/-- The table and the ports agree: a live entry's egress port is in service and its requester's port is UP (R54, R88 to R90);
a DOWN port, or a fenced port that has been DOWN since its fence, has only FREE entries (R89, R134); an unfenced port has
fewer orphans than its limit (R106), a limit of at least 1 (R105); a port out of service has an empty egress queue (R119) and
no head waits for it (R62), a decode result being kept for a head alone (R61); a DOWN upstream port has empty queues (R66); and a deadline and CAP stand in live entries alone
(R69, R86, R87). -/
def State.TableConsistent (s : State) : Prop :=
  (∀ t, (s.entry t).state.live = true →
      s.available (s.entry t).egress = true ∧ (s.up.get (s.entry t).src).link = .up)
    ∧ (∀ t, (s.entry t).deadline.isSome = true ∨ (s.entry t).cap = true → (s.entry t).state.live = true)
    ∧ (∀ n, (s.down.get n).link = .down ∨ ((s.down.get n).fenced = true ∧ (s.down.get n).retrained = true) →
        ∀ t, (s.entry t).egress = n → (s.entry t).state = .free)
    ∧ (∀ n, 1 ≤ (s.down.get n).orphanLimit)
    ∧ (∀ n, (s.down.get n).fenced = false → s.orphanCount n < (s.down.get n).orphanLimit)
    ∧ (∀ n, s.available n = false → (s.down.get n).egress = [])
    ∧ (∀ x d, (s.up.get x).waiting = some d → (s.up.get x).ingress ≠ [] ∧ s.available d.egress = true)
    ∧ (∀ x, (s.up.get x).link = .down →
        (s.up.get x).ingress = [] ∧ (s.up.get x).returnQueue = [] ∧ (s.up.get x).waiting = none)

/-- Deadlines stand in live entries alone, 1 to 65535 microseconds after the forwarding, and TIME has not passed them (R96 to
R98); the repeat deadline stands in SENT alone and TIME has not passed it (R171, R173, R175). -/
def State.DeadlinesAhead (s : State) : Prop :=
  (∀ n, (s.down.get n).rspTimeout ≤ 65535) ∧ s.notice.repeatMs ≤ 65535
    ∧ (∀ k moment, (s.entry k).deadline = some moment →
        (s.entry k).state.live = true
          ∧ 1 ≤ (moment - (s.entry k).dispatchTime).toNat ∧ (moment - (s.entry k).dispatchTime).toNat ≤ 65535
          ∧ (s.time - (s.entry k).dispatchTime).toNat ≤ (moment - (s.entry k).dispatchTime).toNat)
    ∧ (∀ moment, s.notice.repeatDeadline = some moment →
        s.notice.state = .sent ∧ (moment - s.time).toNat ≤ 65535000)

/-! ### Heads and what resolves them -/

/-- The head of Ux is `r`, its decode has not been taken, it is no duplicate (R49), it is well-formed (R9), and the bridge
runs. -/
def State.Presents (s : State) (x : UPort) (r : Request) : Prop :=
  s.held = false ∧ s.undecodedHead x = some r ∧ (r.kind = .pw ∨ s.tagLive x r.tag = false) ∧ r.wellFormed

/-- The head of Ux is an access of the register `reg` that step 4 lets through: aperture hit, permission, LEN 4, aligned,
assigned (R41, R51, R52). -/
def State.PresentsAccess (s : State) (x : UPort) (r : Request) (reg : Reg) : Prop :=
  s.Presents x r ∧ s.hitsAperture r.addr = true ∧ s.permitted x = true ∧ r.len.toNat = 4
    ∧ (r.addr - s.mgmtBase).toNat % 4 = 0 ∧ regAt (r.addr - s.mgmtBase).toNat = some reg

/-- The head of Ux is a write of `v` to the writable register `reg` that step 4 lets through (R52, R179). -/
def State.PresentsWrite (s : State) (x : UPort) (r : Request) (reg : Reg) (v : Word) : Prop :=
  s.PresentsAccess x r reg ∧ (r.kind = .wr ∨ r.kind = .pw) ∧ reg.writable = true ∧ wordOfData r.data = v

/-- The head of Ux is a well-formed request outside the aperture (R41). -/
def State.PresentsOutside (s : State) (x : UPort) (r : Request) : Prop := s.Presents x r ∧ s.hitsAperture r.addr = false

/-- A management write that is accepted: answered OK, then its effect, then resolved MGMT_DONE (R48, R52, R58, R150). -/
def State.accepted (s : State) (x : UPort) (r : Request) (effect : State → State) : State :=
  (effect (s.answer x r .ok)).resolveHead x r .mgmt .mgmtDone none none

/-- A management write that is refused: answered DENIED, then what it records, then resolved DENIED with its cause
(R36, R48, R52, R180). -/
def State.refused (s : State) (x : UPort) (r : Request) (cause : Cause) (effect : State → State) : State :=
  (effect (s.answer x r .denied)).resolveHead x r .mgmt .denied (some cause) none

/-- The record that a write of `v` at COMMAND leaves with this outcome (R185). -/
def State.recorded (s : State) (v : Word) (outcome : CommandOutcome) : State :=
  { s with
    command :=
      { code := v.extractLsb' 0 8
        port := v.extractLsb' 8 8
        outcome := outcome
        count := s.command.count + 1 } }

/-- The answer of `status` to a RD or WR, one LAST part without data in the return queue; a PW gets none (R58). -/
def finalParts (r : Request) (status : Status) : List Part :=
  if r.kind = .pw then [] else [{ tag := r.tag, status := status, last := true, data := [] }]

/-- The parts that a fence or a link-down of Dn places for requester x: an UNAVAILABLE part for each live entry of the port
in ascending index (R88, R89), then the answer of a head that waits for the port (R62). -/
def State.unavailableParts (s : State) (n : DPort) (x : UPort) : List Part :=
  ((List.finRange 128).filter fun k => (s.entry k).state.live && (s.entry k).egress == n && (s.entry k).src == x).map
      (fun k => { tag := (s.entry k).srcTag, status := .unavailable, last := true, data := [] })
    ++ match s.waitingHead x with
      | some (r, d) => if d.egress = n then finalParts r .unavailable else []
      | none => []

/-- What becomes of entry k once its requester's answer has ended on a part of its target: released with an allocation event
if that part had LAST set, else ORPHAN with the orphan limit test of its port (R80, R84, R87, R106). -/
def State.finished (s : State) (n : DPort) (k : Fin 128) (last : Bool) : State :=
  if last then (s.onEntry k fun e => { e with state := .free, deadline := none, cap := false }).allocate
  else
    let t := s.onEntry k fun e => { e with state := .orphan, deadline := none, cap := false }
    if (t.down.get n).fenced = false ∧ (t.down.get n).orphanLimit ≤ t.orphanCount n then (t.fence n .orphans).allocate else t

/-- A damaged message of Dn as the port health unit counts it, before the tests (R136). -/
def State.damagedOnce (s : State) (n : DPort) : State :=
  s.onDown n fun d =>
    { d with
      badRun := satInc d.badRun
      goodRun := 0
      counters := { d.counters with damaged := satInc d.counters.damaged } }

/-- The same with DEGRADED set and its cause where BAD_RUN has reached DEG_ON (R137). -/
def State.damagedTested (s : State) (n : DPort) : State :=
  if (s.down.get n).degraded = false ∧ (s.down.get n).degOn ≤ (satInc (s.down.get n).badRun).toNat then
    ((s.damagedOnce n).onDown n fun d => { d with degraded := true }).raise (.degradedChange n)
  else s.damagedOnce n

/-- The counters of an upstream port when a head of this kind is resolved so (R64): one counter for each disposition but
DROPPED, and PW_DISCARDED for a PW that is dropped or refused. -/
def UpCounters.resolved (c : UpCounters) (kind : ReqKind) : Disposition → UpCounters
  | .forwarded => { c with forwarded := satInc c.forwarded }
  | .zeroFilled => { c with zeroFilled := satInc c.zeroFilled }
  | .mgmtDone => { c with mgmtDone := satInc c.mgmtDone }
  | .unmapped =>
    { c with unmapped := satInc c.unmapped, pwDiscarded := if kind = .pw then satInc c.pwDiscarded else c.pwDiscarded }
  | .denied => { c with denied := satInc c.denied, pwDiscarded := if kind = .pw then satInc c.pwDiscarded else c.pwDiscarded }
  | .unavailable =>
    { c with
      unavailable := satInc c.unavailable
      pwDiscarded := if kind = .pw then satInc c.pwDiscarded else c.pwDiscarded }
  | .malformed =>
    { c with malformed := satInc c.malformed, pwDiscarded := if kind = .pw then satInc c.pwDiscarded else c.pwDiscarded }
  | .rejected => { c with protocol := satInc c.protocol }
  | .dropped => c

/-- A record appended to the buffer with this flag (R157): with the next sequence number and TIME. -/
def Capture.withRecord (c : Capture) (now : Word) (flag : Bool) (b : RecordBody) : Capture :=
  { c with
    buffer := (if c.buffer.length < 256 then c.buffer else c.buffer.tail)
      ++ [{ rseq := c.nextRseq, trigger := flag, time := now, body := b }]
    nextRseq := c.nextRseq + 1
    overwritten := if c.buffer.length < 256 then c.overwritten else satInc c.overwritten }

/-- One of the two match units, updated (R147). -/
def Capture.onUnit (c : Capture) (u : MatchName) (f : MatchUnit → MatchUnit) : Capture :=
  match u with
  | .a => { c with unitA := f c.unitA }
  | .b => { c with unitB := f c.unitB }

/-- The decode result of a request through window i (R25 to R29). -/
def State.decodeResult (s : State) (r : Request) (i : Fin 16) : Decoded where
  window := i
  egress := (s.window i).active.egressPort r.addr
  xaddr := (s.window i).active.translate r.addr
  capture := (s.window i).active.capture

/-- The state after the decode of the head of Ux to a FORWARD outcome through window i: HITS has counted, and the decode result
is kept (R28, R30). -/
def State.decodedForward (s : State) (x : UPort) (r : Request) (i : Fin 16) : State :=
  (s.onWindow i fun e => { e with hits := satInc e.hits }).onUp x fun u => { u with waiting := some (s.decodeResult r i) }

/-- The upstream port whose undecoded head a command dispatches: DISPATCH, and every row that is a management write (log 6).
FORWARDING takes no management access, so it is not among them. -/
def dispatchedPort : Instr → Option UPort
  | .dispatch x | .softReset x | .fenceCommand x _ | .unfence x _ | .retrain x _ | .clearCounters x | .captureArm x
  | .captureStop x | .captureClear x | .unknownCommand x _ | .commit x _ | .disable x _ | .mgmtBaseLoWrite x _
  | .reserveWrite x _ _ | .orphanLimitWrite x _ _ | .enableWrite x _ | .clearWrite x _ | .noticeAck x _ | .captureRelease x
  | .settingWrite x _ _ => some x
  | .powerOnReset _ | .upstreamLinkUp _ | .upstreamLinkDown _ | .downstreamLinkUp _ | .downstreamLinkDown _
  | .requestArrival _ _ | .upstreamCrArrival _ _ | .partArrival _ _ | .downstreamCrArrival _ _
  | .damagedMessageArrival _ _ | .misdirectedMessageArrival _ | .forwarding _ | .issue _ | .crTransmit _
  | .responsePartTransmit _ | .noticeTransmit _ | .expiry _ | .repeatExpiry | .timeAdvance | .resetNAsserted => none

/-- The row of the table that a write of `v` to `reg` dispatched on Ux is an event of; none for a control word that is neither
COMMIT nor DISABLE, which DISPATCH alone takes (log 6). -/
def rowOfWrite (x : UPort) (reg : Reg) (v : Word) : Option Instr :=
  match reg with
  | .command =>
    some (match Command.ofCode (v.extractLsb' 0 8).toNat with
      | some .softReset => .softReset x
      | some .fence => .fenceCommand x (v.extractLsb' 8 8)
      | some .unfence => .unfence x (v.extractLsb' 8 8)
      | some .retrain => .retrain x (v.extractLsb' 8 8)
      | some .clearCounters => .clearCounters x
      | some .captureArm => .captureArm x
      | some .captureStop => .captureStop x
      | some .captureClear => .captureClear x
      | none => .unknownCommand x (v.extractLsb' 0 8))
  | .control i => if v = 1 then some (.commit x i) else if v = 2 then some (.disable x i) else none
  | .mgmtBaseLo => some (.mgmtBaseLoWrite x v)
  | .up p .reserve => some (.reserveWrite x p v)
  | .down n .orphanLimit => some (.orphanLimitWrite x n v)
  | .enable => some (.enableWrite x v)
  | .clear => some (.clearWrite x v)
  | .noticeAck => some (.noticeAck x v)
  | .release => some (.captureRelease x)
  | r => some (.settingWrite x r v)

/-- Match unit `m` matches a request handing (R147): each set is empty or holds the request's member, and every bit that is
cared about is equal in the value and in the window code, or in the ADDR as it arrived. -/
def MatchUnit.Matches (m : MatchUnit) (h : Handing) : Prop :=
  (m.kindSet = 0 ∨ m.kindSet.getLsbD h.request.kind.code = true)
    ∧ (m.portSet = 0 ∨ m.portSet.getLsbD h.port.code = true)
    ∧ (∀ b : Nat, m.windowCare.getLsbD b = true → h.code.code.getLsbD b = m.windowValue.getLsbD b)
    ∧ (∀ b : Nat, m.addrCare.getLsbD b = true → h.request.addr.getLsbD b = m.addrValue.getLsbD b)

/-- `e` is entry k as an allocation event of state s grants it to the waiting head of Ux (R75, R97). -/
def State.Grants (s : State) (x : UPort) (k : Fin 128) (e : OttEntry) : Prop :=
  ∃ r d kind, s.waitingHead x = some (r, d) ∧ r.kind.answered = some kind ∧ e = s.granted x r d kind k

/-- The resources that a waiting head takes when it is forwarded alone or first (R60, R74): the slot for a PW; for a RD or WR
the FREE entry of lowest index but one that is taken. -/
def State.Takes (s : State) (r : Request) (taken : Option Ticket) (ticket : Ticket) : Prop :=
  if r.kind = .pw then ticket = .slot
  else ∃ k, ticket = .entry k ∧ (s.entry k).state = .free ∧ taken ≠ some (.entry k)
    ∧ ∀ j, j < k → (s.entry j).state = .free → taken = some (.entry j)

/-- The parts that the table still owes the requester of Ux (R125, R126). -/
def State.owedTo (s : State) (x : UPort) : Nat :=
  ((List.finRange 128).map fun k => if (s.entry k).src = x then (s.entry k).owed else 0).sum

/-- The expiry of an entry as its port and the notice unit take it: TIMEOUTS of EGRESS and cause TIMEOUT (R102). -/
def State.timedOut (s : State) (k : Fin 128) : State :=
  (s.countDown (s.entry k).egress fun c => { c with timeouts := satInc c.timeouts }).raise .timeout

/-- The state after a conforming part p of Dn with LAST clear is forwarded for entry k, which streams on (R82, R136). -/
def State.streamed (s : State) (n : DPort) (k : Fin 128) (p : Part) : State :=
  ((s.countGood n).placePart (s.entry k).src { p with tag := (s.entry k).srcTag }).onEntry k fun e =>
    { e with state := .streaming, received := e.received + 64 }

/-- A write of `v` to the setting `reg`, carried by SETTING_WRITE, is taken with this effect where `ok` holds, and refused with
DENIED and no effect where it does not (R180). -/
def State.SettingTaken (s : State) (reg : Reg) (v : Word) (ok : Prop) (effect : State → State) : Prop :=
  ∀ (x : UPort) (r : Request), s.PresentsWrite x r reg v →
    (ok → exec (.settingWrite x reg v) s = .next (s.accepted x r effect))
    ∧ (¬ ok → exec (.settingWrite x reg v) s = .next (s.refused x r .denied id))

/-- The requests of Uy that soft reset still finds in its ingress queue when it comes to them: neither the SOFT_RESET itself
nor a waiting head that a forced link-down has resolved (R62, R187, R188). -/
def State.leftForSoftReset (s : State) (x y : UPort) : List Request :=
  if y = x then (s.up.get y).ingress.tail
  else
    match s.waitingHead y with
    | some (_, d) => if (s.down.get d.egress).link = .up then (s.up.get y).ingress.tail else (s.up.get y).ingress
    | none => (s.up.get y).ingress

/-- The parts that a SOFT_RESET r at the head of Ux places for requester y (R68, R91, R187, R188): its own OK, then for each port
that is UP the UNAVAILABLE answers of its link-down, D0 to D3, then an UNAVAILABLE answer to each request still queued. -/
def State.softResetParts (s : State) (x : UPort) (r : Request) (y : UPort) : List Part :=
  (if y = x then finalParts r .ok else [])
    ++ (DPort.all.filter fun n => (s.down.get n).link == .up).flatMap (fun n => s.unavailableParts n y)
    ++ (s.leftForSoftReset x y).flatMap fun q => finalParts q .unavailable

end Sys2Proof.Machine
end

