-- ==== Sys2Proof/Certificates/Slice0/Obligations.lean ====
section
/-! DEFINITION. The statements for the provers. A statement about one command gives its whole next state: what the
expression on the right does not name is unchanged. Statements about the shared operations (a part placed, a head resolved,
a handing, a fence, a link-down, an allocation event) say what those operations do in every field they touch. -/

open Sys2Proof Sys2Proof.Machine

/-! ### The machine and its resets -/

/-- The block's step: the command at the front of the queue, run on the state with the queue's rest; an empty queue idles,
which is the model's own choice (log 2). -/
def Obligations.StepRunsTheFrontCommand : Prop :=
  (∀ (c : Instr) (rest : List Instr) (s : State),
      step { s with pending := c :: rest } = exec c { s with pending := rest })
    ∧ ∀ s : State, s.pending = [] → step s = .next s

/-- POWER_ON_RESET gives every piece of state its power-on value (R190 and the rules of each chapter); the queue of
commands, the outputs and the counter of free values are the model's own and stay (logs 13, 15). -/
def Obligations.PowerOnResetGivesPowerOnValues : Prop :=
  ∀ (msel : BitVec 4) (s : State), ∃ t, exec (.powerOnReset msel) s = .next t
    ∧ t.held = false ∧ t.time = 0 ∧ t.strap = msel
    ∧ t.mgmtBase.toNat = 0xFFFFFF000000 + msel.toNat * 0x10000 ∧ t.mgmtBaseHi = 0xFFFF ∧ t.mgmtPermit = 0b01
    ∧ t.command = { code := 0, port := 0, outcome := .none, count := 0 }
    ∧ (∀ x, t.up.get x =
        { link := .down, ingress := [], waiting := none, returnQueue := [], pendingCredits := 0, credits := 0,
          turn := .notice, defaultAction := .unmappedError, reserve := 8, counters := UpCounters.zero })
    ∧ (∀ n, t.down.get n =
        { link := .down, fenced := false, reason := .none, retrained := false, degraded := false, badRun := 0, goodRun := 0,
          credits := 0, egress := [], admission := .u1, rspTimeout := 1000, orphanLimit := 8, degOn := 2, degOff := 16,
          fenceLimit := 8, counters := DownCounters.zero })
    ∧ (∀ i, (t.window i).active.valid = false ∧ (t.window i).active = (t.window i).staging
        ∧ (t.window i).active.base = 0 ∧ (t.window i).active.mask = 0 ∧ (t.window i).active.xbase = 0
        ∧ (t.window i).active.sources = 0 ∧ (t.window i).active.permit = 0 ∧ (t.window i).active.capture = .off
        ∧ (t.window i).active.targetKind = .port ∧ (t.window i).active.portNumber = 0
        ∧ (t.window i).active.spreadSet = 0 ∧ (t.window i).active.select = 0
        ∧ (t.window i).hits = 0 ∧ (t.window i).status = .none)
    ∧ (∀ k, t.entry k =
        { state := .free, src := .u0, srcTag := 0, kind := .rd, egress := .d0, xaddr := 0, len := 0, received := 0,
          deadline := none, window := 0, cap := false, dispatchTime := 0 })
    ∧ t.lastGrant = .u1
    ∧ t.capture.state = .off ∧ t.capture.buffer = [] ∧ t.capture.nextRseq = 0 ∧ t.capture.postRemain = 0
    ∧ t.capture.dropped = 0 ∧ t.capture.overwritten = 0 ∧ t.capture.combine = .aOnly ∧ t.capture.trigger = .none
    ∧ t.capture.capMgmt = .off ∧ t.capture.capDefault = .off ∧ t.capture.postCount = 32 ∧ t.capture.threshold = 128
    ∧ t.capture.mode = .stop
    ∧ (∀ m, m = t.capture.unitA ∨ m = t.capture.unitB →
        m = { kindSet := 0, portSet := 0, windowValue := 0, windowCare := 0, addrValue := 0, addrCare := 0 })
    ∧ t.notice =
        { cause := 0, enable := 0, state := .idle, repeatMark := false, repeatDeadline := none, seq := 0, addr := 0,
          port := .u0, repeatMs := 0, sent := 0, cancelled := 0, repeats := 0 }
    ∧ t.pending = s.pending ∧ t.outputs = s.outputs ∧ t.choices = s.choices

/-- RESET_N_ASSERTED ends every operation and holds the bridge in its power-on state: RESET_N aside, the state is the one that
POWER_ON_RESET leaves at the strap last sampled, every field of which PowerOnResetGivesPowerOnValues states; ports, queues, tables
and sets are named here as well. While it is held no command but a reset has an effect (R190; that the strap, and MGMT_BASE with
it, keeps its last sample is the model's choice, log 15). -/
def Obligations.AssertedResetHoldsTheBridge : Prop :=
  (∀ s : State, ∃ t, exec .resetNAsserted s = .next t ∧ t.held = true ∧ t.strap = s.strap ∧ t.time = 0
      ∧ exec (.powerOnReset s.strap) s = .next { t with held := false }
      ∧ (∀ x, (t.up.get x).link = .down ∧ (t.up.get x).ingress = [] ∧ (t.up.get x).returnQueue = []
          ∧ (t.up.get x).credits = 0 ∧ (t.up.get x).pendingCredits = 0)
      ∧ (∀ n, (t.down.get n).link = .down ∧ (t.down.get n).egress = [] ∧ (t.down.get n).credits = 0
          ∧ (t.down.get n).fenced = false)
      ∧ (∀ k, (t.entry k).state = .free) ∧ (∀ i, (t.window i).active.valid = false)
      ∧ t.capture.buffer = [] ∧ t.notice.cause = 0 ∧ t.notice.enable = 0 ∧ t.notice.state = .idle
      ∧ t.pending = s.pending)
    ∧ ∀ (c : Instr) (s : State), s.held = true → (∀ msel, c ≠ .powerOnReset msel) → c ≠ .resetNAsserted →
        exec c s = .next s

/-! ### Link events -/

/-- UPSTREAM_LINK_DOWN of an UP port (R66, R90, R106, R144): the port's queues and credits; its cause; what becomes of each
entry, of the port and of the other port, where a fence of the orphan test and the allocation event reach it; and what is kept.
A released entry may be granted to the waiting head of the other port in the allocation event. Where no port is fenced and no
head waits on the other port, that port is not affected, and the capture unit takes the DROPPED handing of the waiting head that
was lost alone (that it stands before the orphan tests is deduced, log 11; the place of the allocation event, log 8). Of a DOWN
port the event is ignored. -/
def Obligations.UpstreamLinkDownEndsThePort : Prop :=
  ∀ (x : UPort) (s : State), s.held = false →
    ((s.up.get x).link = .down → exec (.upstreamLinkDown x) s = .next s)
    ∧ ((s.up.get x).link = .up → ∃ t, exec (.upstreamLinkDown x) s = .next t
        ∧ t.up.get x =
          { s.up.get x with
            link := .down
            ingress := []
            waiting := none
            returnQueue := []
            pendingCredits := 0
            credits := 0
            counters := { (s.up.get x).counters with linkDowns := satInc (s.up.get x).counters.linkDowns } }
        ∧ t.notice.cause.getLsbD (12 + x.code) = true
        ∧ (∀ k, (s.entry k).src = x →
            match (s.entry k).state with
            | .pending =>
              t.entry k = { s.entry k with state := .free, deadline := none, cap := false }
                ∨ s.Grants x.other k (t.entry k)
            | .issued => t.entry k = { s.entry k with state := .orphan, deadline := none, cap := false }
            | .streaming => t.entry k = { s.entry k with state := .orphan, deadline := none, cap := false }
            | .orphan => t.entry k = s.entry k
            | .free => t.entry k = s.entry k ∨ s.Grants x.other k (t.entry k))
        ∧ (∀ k, (s.entry k).src = x.other →
            (s.down.get (s.entry k).egress).fenced = (t.down.get (s.entry k).egress).fenced →
            t.entry k = s.entry k ∨ (s.entry k).state = .free ∧ s.Grants x.other k (t.entry k))
        ∧ (∀ k, (s.entry k).src = x.other →
            (s.down.get (s.entry k).egress).fenced = false → (t.down.get (s.entry k).egress).fenced = true →
            match (s.entry k).state with
            | .pending =>
              t.entry k = { s.entry k with state := .free, deadline := none, cap := false }
                ∨ s.Grants x.other k (t.entry k)
            | .issued => t.entry k = { s.entry k with state := .orphan, deadline := none, cap := false }
            | .streaming => t.entry k = { s.entry k with state := .orphan, deadline := none, cap := false }
            | .orphan => t.entry k = s.entry k
            | .free => t.entry k = s.entry k ∨ s.Grants x.other k (t.entry k))
        ∧ (∀ k, (t.entry k).state.live = true → (t.entry k).src = x.other)
        ∧ (∀ n, (s.down.get n).fenced = false →
            ((t.down.get n).fenced = true ↔ (t.down.get n).orphanLimit ≤ t.orphanCount n)
            ∧ ((t.down.get n).fenced = true → (t.down.get n).reason = .orphans))
        ∧ ((∀ n, (t.down.get n).fenced = (s.down.get n).fenced) → s.waitingHead x.other = none →
            t.up.get x.other = s.up.get x.other
            ∧ t.capture =
              match s.waitingHead x with
              | some (r, d) =>
                (s.handRequest
                  { port := x, request := r, code := .window d.window d.capture, disposition := .dropped, forward := none }).capture
              | none => s.capture)
        ∧ (∀ n, (t.down.get n).link = (s.down.get n).link ∧ (t.down.get n).credits = (s.down.get n).credits)
        ∧ t.settings = s.settings ∧ t.time = s.time ∧ t.command = s.command ∧ t.windows = s.windows
        ∧ t.outputs = s.outputs ∧ t.pending = s.pending)

/-- UPSTREAM_LINK_UP of a DOWN port (R15, R16, R67, R121, R145): empty queues, 16 credits owed, no credits held, turn record
NOTICE, LINK_UPS and cause LINK_CHANGE_U. DOWNSTREAM_LINK_UP of a DOWN port (R129, R145): UP without credits, its fence, its
runs and its settings kept, LINK_UPS and cause LINK_CHANGE. Of an UP port either is ignored. -/
def Obligations.LinkUpStartsThePort : Prop :=
  (∀ (x : UPort) (s : State), s.held = false →
    exec (.upstreamLinkUp x) s = .next
      (if (s.up.get x).link = .up then s
      else
        (s.onUp x fun u =>
          { u with
            link := .up
            ingress := []
            waiting := none
            returnQueue := []
            pendingCredits := 16
            credits := 0
            turn := .notice
            counters := { u.counters with linkUps := satInc u.counters.linkUps } }).raise (.linkChangeU x)))
  ∧ (∀ (n : DPort) (s : State), s.held = false →
    exec (.downstreamLinkUp n) s = .next
      (if (s.down.get n).link = .up then s
      else
        (s.onDown n fun d =>
          { d with
            link := .up
            credits := 0
            counters := { d.counters with linkUps := satInc d.counters.linkUps } }).raise (.linkChange n)))

/-- DOWNSTREAM_LINK_DOWN of an UP port is a link-down with the allocation event of what it releases (R73, R119, R130; the place
of the allocation event is deduced, log 8); of a DOWN port it is ignored. The link-down of Dn (R62, R89, R119, R130): the port's
own state; every entry of the port FREE; the UNAVAILABLE parts, in ascending index and then the waiting head, in a return queue
with room; the waiting heads resolved; the causes; what stays. -/
def Obligations.DownstreamLinkDownEmptiesPort : Prop :=
  (∀ (n : DPort) (s : State), s.held = false →
    exec (.downstreamLinkDown n) s = .next (if (s.down.get n).link = .down then s else (s.linkDown n).allocate))
  ∧ (∀ (n : DPort) (s : State),
    (s.linkDown n).down.get n =
        { s.down.get n with
          link := .down
          badRun := 0
          goodRun := 0
          degraded := false
          retrained := (s.down.get n).fenced || (s.down.get n).retrained
          credits := 0
          egress := []
          counters :=
            { (s.down.get n).counters with
              linkDowns := satInc (s.down.get n).counters.linkDowns
              pwDropped := satAdd (s.down.get n).counters.pwDropped (postedCount (s.down.get n).egress) } }
    ∧ (∀ m, m ≠ n → (s.linkDown n).down.get m = s.down.get m)
    ∧ (∀ k, (s.linkDown n).entry k =
        if (s.entry k).egress = n ∧ (s.entry k).state ≠ .free then
          { s.entry k with state := .free, deadline := none, cap := false }
        else s.entry k)
    ∧ (∀ x, (s.up.get x).returnQueue.length + (s.unavailableParts n x).length ≤ 576 →
        ((s.linkDown n).up.get x).returnQueue = (s.up.get x).returnQueue ++ s.unavailableParts n x)
    ∧ (∀ x r d, s.waitingHead x = some (r, d) → d.egress = n →
        ((s.linkDown n).up.get x).ingress = (s.up.get x).ingress.tail ∧ ((s.linkDown n).up.get x).waiting = none
        ∧ ((s.linkDown n).up.get x).pendingCredits = satInc (s.up.get x).pendingCredits
        ∧ ((s.linkDown n).up.get x).counters.unavailable = satInc (s.up.get x).counters.unavailable)
    ∧ (∀ x, s.waitsFor x n = false →
        ((s.linkDown n).up.get x).ingress = (s.up.get x).ingress
        ∧ ((s.linkDown n).up.get x).waiting = (s.up.get x).waiting
        ∧ ((s.linkDown n).up.get x).pendingCredits = (s.up.get x).pendingCredits)
    ∧ (s.linkDown n).notice.cause.getLsbD (4 + n.code) = true
    ∧ ((s.down.get n).degraded = true → (s.linkDown n).notice.cause.getLsbD (8 + n.code) = true)
    ∧ (s.linkDown n).settings = s.settings ∧ (s.linkDown n).time = s.time ∧ (s.linkDown n).windows = s.windows
    ∧ (s.linkDown n).lastGrant = s.lastGrant ∧ (s.linkDown n).outputs = s.outputs)

/-- The fence of Dn (R62, R88, R119, R132 to R134): of a fenced port nothing; of an unfenced one the port's own state, its
PENDING entries FREE and its in-flight entries ORPHAN, the parts, the waiting heads, the cause, and what stays. -/
def Obligations.FenceTakesThePortOutOfService : Prop :=
  ∀ (n : DPort) (reason : FenceReason) (s : State),
    ((s.down.get n).fenced = true → s.fence n reason = s)
    ∧ ((s.down.get n).fenced = false →
      (s.fence n reason).down.get n =
          { s.down.get n with
            fenced := true
            reason := reason
            retrained := (s.down.get n).link == .down
            egress := []
            counters :=
              { (s.down.get n).counters with
                fences := satInc (s.down.get n).counters.fences
                pwDropped := satAdd (s.down.get n).counters.pwDropped (postedCount (s.down.get n).egress) } }
      ∧ (∀ m, m ≠ n → (s.fence n reason).down.get m = s.down.get m)
      ∧ (∀ k, (s.fence n reason).entry k =
          if (s.entry k).egress = n then
            match (s.entry k).state with
            | .pending => { s.entry k with state := .free, deadline := none, cap := false }
            | .issued => { s.entry k with state := .orphan, deadline := none, cap := false }
            | .streaming => { s.entry k with state := .orphan, deadline := none, cap := false }
            | .orphan => s.entry k
            | .free => s.entry k
          else s.entry k)
      ∧ (∀ x, (s.up.get x).returnQueue.length + (s.unavailableParts n x).length ≤ 576 →
          ((s.fence n reason).up.get x).returnQueue = (s.up.get x).returnQueue ++ s.unavailableParts n x)
      ∧ (∀ x r d, s.waitingHead x = some (r, d) → d.egress = n →
          ((s.fence n reason).up.get x).ingress = (s.up.get x).ingress.tail ∧ ((s.fence n reason).up.get x).waiting = none
          ∧ ((s.fence n reason).up.get x).pendingCredits = satInc (s.up.get x).pendingCredits
          ∧ ((s.fence n reason).up.get x).counters.unavailable = satInc (s.up.get x).counters.unavailable)
      ∧ (∀ x, s.waitsFor x n = false →
          ((s.fence n reason).up.get x).ingress = (s.up.get x).ingress
          ∧ ((s.fence n reason).up.get x).waiting = (s.up.get x).waiting
          ∧ ((s.fence n reason).up.get x).pendingCredits = (s.up.get x).pendingCredits)
      ∧ (s.fence n reason).notice.cause.getLsbD n.code = true
      ∧ (s.fence n reason).settings = s.settings ∧ (s.fence n reason).time = s.time
      ∧ (s.fence n reason).windows = s.windows ∧ (s.fence n reason).lastGrant = s.lastGrant
      ∧ (s.fence n reason).outputs = s.outputs)

/-! ### Arrivals -/

/-- REQUEST_ARRIVAL of a structurally usable request on an UP port (R45, R46): appended to an ingress queue with room, else
discarded as a protocol error. UPSTREAM_CR_ARRIVAL (R8, R16): COUNT is added; a sum over 64 is ignored as a protocol error. A
message that R18 finds unusable is counted as damaged wherever it is named (R18, R19; log 16). -/
def Obligations.UpstreamArrivalsAreQueuedOrCounted : Prop :=
  (∀ (x : UPort) (r : Request) (s : State), s.held = false → (s.up.get x).link = .up →
    exec (.requestArrival x r) s = .next
      (if r.data.length = (if r.kind = .rd then 0 else r.len.toNat) then
        if (s.up.get x).ingress.length < 16 then s.onUp x fun u => { u with ingress := u.ingress ++ [r] }
        else (s.countUp x fun c => { c with protocol := satInc c.protocol }).raise .protocol
      else s.countUp x fun c => { c with damaged := satInc c.damaged }))
  ∧ (∀ (x : UPort) (count : BitVec 7) (s : State), s.held = false → (s.up.get x).link = .up →
    exec (.upstreamCrArrival x count) s = .next
      (if 1 ≤ count.toNat ∧ count.toNat ≤ 64 then
        if (s.up.get x).credits + count.toNat ≤ 64 then s.onUp x fun u => { u with credits := u.credits + count.toNat }
        else (s.countUp x fun c => { c with protocol := satInc c.protocol }).raise .protocol
      else s.countUp x fun c => { c with damaged := satInc c.damaged }))

/-- PART_ARRIVAL of a stray part (R79): the STRAY counter and cause STRAY, beside the port's run of good messages (R136). The
table, the return queues and the capture unit are as they were. -/
def Obligations.StrayPartIsDiscarded : Prop :=
  ∀ (n : DPort) (p : Part) (s : State), s.held = false → (s.down.get n).link = .up → p.data.length ≤ 64 →
    (128 ≤ p.tag.toNat ∨ ∃ k : Fin 128, k.val = p.tag.toNat ∧
      ((s.entry k).state = .free ∨ (s.entry k).state = .pending ∨ (s.entry k).egress ≠ n)) →
    exec (.partArrival n p) s =
        .next (((s.countGood n).countDown n fun c => { c with stray := satInc c.stray }).raise .stray)
      ∧ (((s.countGood n).countDown n fun c => { c with stray := satInc c.stray }).raise .stray).ott = s.ott
      ∧ (((s.countGood n).countDown n fun c => { c with stray := satInc c.stray }).raise .stray).up = s.up
      ∧ (((s.countGood n).countDown n fun c => { c with stray := satInc c.stray }).raise .stray).capture = s.capture

/-- PART_ARRIVAL of a late part (R87, R103): the LATE counter; with LAST set the orphan is released, an allocation event. -/
def Obligations.LatePartReleasesTheOrphanAtLast : Prop :=
  ∀ (n : DPort) (p : Part) (k : Fin 128) (s : State), s.held = false → (s.down.get n).link = .up → p.data.length ≤ 64 →
    p.tag.toNat = k.val → (s.entry k).state = .orphan → (s.entry k).egress = n →
    exec (.partArrival n p) s = .next
      (if p.last then
        (((s.countGood n).countDown n fun c => { c with late := satInc c.late }).onEntry k fun e =>
          { e with state := .free, deadline := none, cap := false }).allocate
      else (s.countGood n).countDown n fun c => { c with late := satInc c.late })

/-- PART_ARRIVAL of a live part that ends the answer early: a part of status not OK (R80), or a nonconforming OK part, which
becomes TARGET_ERROR and counts NONCONFORMING (R81, R84). RECEIVED is unchanged. -/
def Obligations.EarlyEndingPartRetiresTheRequest : Prop :=
  ∀ (n : DPort) (p : Part) (k : Fin 128) (s : State), s.held = false → (s.down.get n).link = .up → p.data.length ≤ 64 →
    p.tag.toNat = k.val → ((s.entry k).state = .issued ∨ (s.entry k).state = .streaming) → (s.entry k).egress = n →
    (p.status ≠ .ok →
      exec (.partArrival n p) s = .next
        ((((s.countGood n).placePart (s.entry k).src
            { tag := (s.entry k).srcTag, status := p.status, last := true, data := [] }).complete k p.status).finished
          n k p.last))
    ∧ (p.status = .ok →
      ((s.entry k).kind = .rd ∧ p.last = false ∧ ¬ (p.data.length = 64 ∧ (s.entry k).received + 64 < (s.entry k).len)
        ∨ (s.entry k).kind = .rd ∧ p.last = true
            ∧ ¬ (1 ≤ p.data.length ∧ (s.entry k).received + p.data.length = (s.entry k).len)
        ∨ (s.entry k).kind = .wr ∧ ¬ (p.last = true ∧ p.data = [])) →
      exec (.partArrival n p) s = .next
        (((((s.countGood n).countDown n fun c => { c with nonconforming := satInc c.nonconforming }).placePart (s.entry k).src
            { tag := (s.entry k).srcTag, status := .targetError, last := true, data := [] }).complete k .targetError).finished
          n k p.last))

/-- PART_ARRIVAL of a conforming OK part (R81 to R83, R85 to R87): forwarded under SRC_TAG; with LAST clear the entry streams
on with its deadline, and a deadline that TIME has reached passes in the same event, after the part (R108): TIMEOUT is placed
and the entry becomes ORPHAN, as at any expiry (R101, R102, R106); with LAST set the answer is complete, no expiry is taken, and
the entry is released. That the entry also counts RECEIVED, and streams on, where the part is discarded at a full return queue is
the model's choice (log 22). -/
def Obligations.ConformingPartIsForwarded : Prop :=
  ∀ (n : DPort) (p : Part) (k : Fin 128) (s : State), s.held = false → (s.down.get n).link = .up → p.data.length ≤ 64 →
    p.tag.toNat = k.val → ((s.entry k).state = .issued ∨ (s.entry k).state = .streaming) → (s.entry k).egress = n →
    p.status = .ok →
    ((s.entry k).kind = .rd ∧ p.last = false ∧ p.data.length = 64 ∧ (s.entry k).received + 64 < (s.entry k).len →
      ((s.entry k).deadline ≠ some s.time → exec (.partArrival n p) s = .next (s.streamed n k p))
      ∧ ((s.entry k).deadline = some s.time →
        exec (.partArrival n p) s = .next
          (((((s.streamed n k p).timedOut k).placePart (s.entry k).src
            { tag := (s.entry k).srcTag, status := .timeout, last := true, data := [] }).complete k .timeout).finished n k false)))
    ∧ ((s.entry k).kind = .rd ∧ p.last = true ∧ 1 ≤ p.data.length ∧ (s.entry k).received + p.data.length = (s.entry k).len
        ∨ (s.entry k).kind = .wr ∧ p.last = true ∧ p.data = [] →
      exec (.partArrival n p) s = .next
        (((((s.countGood n).placePart (s.entry k).src { p with tag := (s.entry k).srcTag }).onEntry k fun e =>
          { e with received := e.received + p.data.length }).complete k .ok).onEntry k fun e =>
            { e with state := .free, deadline := none, cap := false }).allocate)

/-- DOWNSTREAM_CR_ARRIVAL of a usable CR on an UP port: the table of R117, row by row, beside the run of good messages. -/
def Obligations.DownstreamCrFollowsTheFence : Prop :=
  ∀ (n : DPort) (count : BitVec 7) (s : State), s.held = false → (s.down.get n).link = .up →
    1 ≤ count.toNat → count.toNat ≤ 64 →
    ((s.down.get n).fenced = false → (s.down.get n).credits + count.toNat ≤ 64 →
      exec (.downstreamCrArrival n count) s =
        .next ((s.countGood n).onDown n fun d => { d with credits := d.credits + count.toNat }))
    ∧ ((s.down.get n).fenced = false → 64 < (s.down.get n).credits + count.toNat →
      exec (.downstreamCrArrival n count) s =
        .next ((((s.countGood n).countDown n fun c => { c with crIgnored := satInc c.crIgnored }).fence n .credit).allocate))
    ∧ ((s.down.get n).fenced = true → (s.down.get n).retrained = false →
      exec (.downstreamCrArrival n count) s =
        .next ((s.countGood n).countDown n fun c => { c with crIgnored := satInc c.crIgnored }))
    ∧ ((s.down.get n).fenced = true → (s.down.get n).retrained = true → (s.down.get n).credits + count.toNat ≤ 64 →
      exec (.downstreamCrArrival n count) s =
        .next ((s.countGood n).onDown n fun d => { d with credits := d.credits + count.toNat }))
    ∧ ((s.down.get n).fenced = true → (s.down.get n).retrained = true → 64 < (s.down.get n).credits + count.toNat →
      exec (.downstreamCrArrival n count) s =
        .next ((s.countGood n).countDown n fun c => { c with crIgnored := satInc c.crIgnored }))

/-- A good message of Dn at the port health unit (R136, R137): GOOD_RUN counts, BAD_RUN is 0, and DEGRADED is cleared with its
cause where GOOD_RUN has reached DEG_OFF. DAMAGED_MESSAGE_ARRIVAL on an UP port (R19, R136 to R138, R144): counted and
discarded; on a downstream port the run, the test for DEGRADED, and the fence of reason DAMAGE with its allocation event where
BAD_RUN has reached FENCE_LIMIT.
MISDIRECTED_MESSAGE_ARRIVAL of a usable message on an UP port (R20, R136): counted PROTOCOL with its cause, and nothing
else but the run of good messages of a downstream port. -/
def Obligations.GoodDamagedAndMisdirectedMessagesCount : Prop :=
  ((∀ (n : DPort) (s : State),
    s.countGood n =
      if (s.down.get n).degraded = true ∧ (s.down.get n).degOff ≤ (satInc (s.down.get n).goodRun).toNat then
        (s.onDown n fun d => { d with goodRun := satInc d.goodRun, badRun := 0, degraded := false }).raise (.degradedChange n)
      else s.onDown n fun d => { d with goodRun := satInc d.goodRun, badRun := 0 })
  ∧ (∀ (delivered : Option (List Byte)) (s : State), s.held = false → delivered.bind Message.ofBytes = none →
    (∀ x, (s.up.get x).link = .up →
      exec (.damagedMessageArrival (.up x) delivered) s = .next (s.countUp x fun c => { c with damaged := satInc c.damaged }))
    ∧ (∀ n, (s.down.get n).link = .up →
      exec (.damagedMessageArrival (.down n) delivered) s = .next
        (if (s.down.get n).fenced = false ∧ (s.down.get n).fenceLimit ≤ (satInc (s.down.get n).badRun).toNat then
          ((s.damagedTested n).fence n .damage).allocate
        else s.damagedTested n))))
  ∧ (∀ s : State, s.held = false →
    (∀ (x : UPort) (p : Part), (s.up.get x).link = .up → p.data.length ≤ 64 →
      exec (.misdirectedMessageArrival (.rspUpstream x p)) s =
        .next ((s.countUp x fun c => { c with protocol := satInc c.protocol }).raise .protocol))
    ∧ (∀ (n : DPort) (r : Request), (s.down.get n).link = .up →
      r.data.length = (if r.kind = .rd then 0 else r.len.toNat) →
      exec (.misdirectedMessageArrival (.requestDownstream n r)) s =
        .next (((s.countGood n).countDown n fun c => { c with protocol := satInc c.protocol }).raise .protocol)))

/-! ### Causes, parts, heads and handings -/

/-- Raising a cause (R166, R169): it becomes a member of CAUSE; an IDLE notice unit with a nonempty ACTIVE moves to QUEUED with
the repeat mark clear; in any other state the unit moves nowhere. A part placed (R58, R85, R127): after every part already in a
return queue with room; at a full queue it is discarded as a protocol error of the port. A local answer of one part is placed
so, and a PW gets none. The parts of a longer local answer are placed one after another, and with room for all of them they follow
what the queue held, in their order, with nothing else changed.
The resolution of a head (R15, R48, R64, R65): it leaves the queue with its credit, its disposition is counted, its cause
is raised, and it is handed to the capture unit after that. -/
def Obligations.CausesPartsAndResolvedHeads : Prop :=
  ((∀ (c : Cause) (s : State),
    s.raise c = s.onNotice fun u =>
      if u.state = .idle ∧ (u.cause ||| c.set) &&& u.enable ≠ 0 then
        { u with cause := u.cause ||| c.set, state := .queued, repeatMark := false }
      else { u with cause := u.cause ||| c.set })
  ∧ (∀ (x : UPort) (s : State),
    (∀ p : Part, s.placePart x p =
      if (s.up.get x).returnQueue.length < 576 then s.onUp x fun u => { u with returnQueue := u.returnQueue ++ [p] }
      else (s.countUp x fun c => { c with protocol := satInc c.protocol }).raise .protocol)
    ∧ ∀ (r : Request) (status : Status), s.answer x r status =
        if r.kind = .pw then s else s.placePart x { tag := r.tag, status := status, last := true, data := [] })
  ∧ (∀ (x : UPort) (parts : List Part) (s : State),
    (parts = [] → s.placeParts x parts = s)
    ∧ (∀ (p : Part) (rest : List Part), parts = p :: rest → s.placeParts x parts = (s.placePart x p).placeParts x rest)
    ∧ ((s.up.get x).returnQueue.length + parts.length ≤ 576 →
      s.placeParts x parts = s.onUp x fun u => { u with returnQueue := u.returnQueue ++ parts })))
  ∧ (∀ (x : UPort) (r : Request) (code : WindowCode) (d : Disposition) (cause : Option Cause) (forward : Option ForwardInfo)
    (s : State),
    s.resolveHead x r code d cause forward =
      ((match cause with
        | some c =>
          (s.onUp x fun u =>
            { u with
              ingress := u.ingress.tail
              waiting := none
              pendingCredits := satInc u.pendingCredits
              counters := u.counters.resolved r.kind d }).raise c
        | none =>
          s.onUp x fun u =>
            { u with
              ingress := u.ingress.tail
              waiting := none
              pendingCredits := satInc u.pendingCredits
              counters := u.counters.resolved r.kind d }).handRequest
        { port := x, request := r, code := code, disposition := d, forward := forward }))

/-- The offer of a record (R157 to R159): appended with room, with CAPTURE_THRESHOLD where the count comes to THRESHOLD; over the
oldest in RING mode, or dropped in STOP mode, with CAPTURE_OVERFLOW. A handing in each capture state (R151, R153, R154): nothing
in OFF and FROZEN; the trigger in ARMED; POST_REMAIN in TRIGGERED, with CAPTURE_FROZEN where it comes to 0. A completion handing
(R86, R149, R152, R156): made for an entry with CAP set, which is cleared. -/
def Obligations.HandingsFollowTheCaptureState : Prop :=
  (∀ (flag : Bool) (b : RecordBody) (s : State),
    (s.capture.buffer.length < 256 →
      s.offer flag b =
        if s.capture.buffer.length + 1 = s.capture.threshold then
          (s.onCapture fun c => c.withRecord s.time flag b).raise .captureThreshold
        else s.onCapture fun c => c.withRecord s.time flag b)
    ∧ (256 ≤ s.capture.buffer.length → s.capture.mode = .ring →
      s.offer flag b = (s.onCapture fun c => c.withRecord s.time flag b).raise .captureOverflow)
    ∧ (256 ≤ s.capture.buffer.length → s.capture.mode = .stop →
      s.offer flag b = (s.onCapture fun c => { c with dropped := satInc c.dropped }).raise .captureOverflow))
  ∧ (∀ (candidate fires : Bool) (b : RecordBody) (s : State),
    (s.capture.state = .off ∨ s.capture.state = .frozen → s.hand candidate fires b = s)
    ∧ (s.capture.state = .armed → fires = false → s.hand candidate fires b = if candidate then s.offer false b else s)
    ∧ (s.capture.state = .armed → fires = true →
      ((s.hand candidate fires b).capture.state = if s.capture.postCount = 0 then .frozen else .triggered)
      ∧ (s.hand candidate fires b).capture.postRemain = s.capture.postCount
      ∧ ((s.hand candidate fires b).capture.buffer =
          if candidate then
            if s.capture.buffer.length < 256 ∨ s.capture.mode = .ring then (s.capture.withRecord s.time true b).buffer
            else s.capture.buffer
          else s.capture.buffer)
      ∧ (s.hand candidate fires b).notice.cause.getLsbD 22 = true
      ∧ (s.capture.postCount = 0 → (s.hand candidate fires b).notice.cause.getLsbD 23 = true))
    ∧ (s.capture.state = .triggered → candidate = false → s.hand candidate fires b = s)
    ∧ (s.capture.state = .triggered → candidate = true →
      (s.capture.buffer.length < 256 ∨ s.capture.mode = .ring →
        (s.hand candidate fires b).capture.postRemain = s.capture.postRemain - 1
        ∧ ((s.hand candidate fires b).capture.state = if s.capture.postRemain - 1 = 0 then .frozen else .triggered)
        ∧ (s.hand candidate fires b).capture.buffer = (s.capture.withRecord s.time false b).buffer
        ∧ (s.capture.postRemain - 1 = 0 → (s.hand candidate fires b).notice.cause.getLsbD 23 = true))
      ∧ (256 ≤ s.capture.buffer.length → s.capture.mode = .stop → s.hand candidate fires b = s.offer false b)))
  ∧ (∀ (k : Fin 128) (status : Status) (s : State),
    s.complete k status =
      if (s.entry k).cap then
        (s.hand true (s.capture.trigger == .anyError && status != .ok)
          (.completion (s.entry k).src (s.entry k).srcTag k status (s.entry k).received
            (s.time - (s.entry k).dispatchTime))).onEntry k fun e => { e with cap := false }
      else s)

/-- A request handing (R147 to R149, R152, R155): it meets the capture state as a candidate or not, firing the trigger or not,
with the REQUEST record of its fields as they arrived, its window code, its disposition and what its forwarding added. The mode
that applies is the window's, CAP_MGMT for MGMT, CAP_DEFAULT for no hit and for a head resolved before decode; it is a candidate
under ALL, or under FILTERED where COMBINE of the two match units holds. MATCH_A and MATCH_B fire where their unit matches,
ANY_ERROR on the six dispositions that are errors, NONE never. -/
def Obligations.RequestHandingsAreMatchedAndRecorded : Prop :=
  ∀ (h : Handing) (s : State),
    s.handRequest h =
        s.hand (s.capture.candidate h) (s.capture.firesOnRequest h)
          (.request h.port h.request.tag h.request.kind h.request.addr h.request.len h.code.code h.disposition
            (h.forward.map fun f => f.xaddr) (h.forward.map fun f => f.egress) (h.forward.bind fun f => f.ott))
    ∧ (h.code.code.toNat =
        match h.code with
        | .window i _ => i.val
        | .mgmt => 16
        | .noHit => 17
        | .undecoded => 18)
    ∧ (∀ mode : CapMode,
        (mode =
          match h.code with
          | .window _ m => m
          | .mgmt => s.capture.capMgmt
          | .noHit => s.capture.capDefault
          | .undecoded => s.capture.capDefault) →
        (s.capture.candidate h = true ↔
          mode = .all ∨ mode = .filtered ∧
            match s.capture.combine with
            | .aOnly => s.capture.unitA.Matches h
            | .either => s.capture.unitA.Matches h ∨ s.capture.unitB.Matches h
            | .both => s.capture.unitA.Matches h ∧ s.capture.unitB.Matches h
            | .aNotB => s.capture.unitA.Matches h ∧ ¬ s.capture.unitB.Matches h))
    ∧ (s.capture.firesOnRequest h = true ↔
        match s.capture.trigger with
        | .none => False
        | .matchA => s.capture.unitA.Matches h
        | .matchB => s.capture.unitB.Matches h
        | .anyError =>
          h.disposition = .unmapped ∨ h.disposition = .denied ∨ h.disposition = .unavailable ∨ h.disposition = .malformed
            ∨ h.disposition = .rejected ∨ h.disposition = .dropped)

/-! ### Dispatch -/

/-- The length and block rule (R9). -/
def Obligations.WellFormedIsTheLengthAndBlockRule : Prop :=
  ∀ r : Request,
    r.wellFormed = true ↔ (1 ≤ r.len.toNat ∧ r.len.toNat ≤ 256) ∧ r.addr.toNat % 256 + r.len.toNat ≤ 256

/-- DISPATCH of a head that the first two steps decide (R49, R50): a RD or WR whose source port and tag a live entry holds is
REJECTED without an answer; an ill-formed head is answered MALFORMED. -/
def Obligations.HeadsRefusedBeforeDecode : Prop :=
  ∀ (x : UPort) (r : Request) (s : State), s.held = false → s.undecodedHead x = some r →
    (r.kind ≠ .pw → (∃ k, (s.entry k).state.live = true ∧ (s.entry k).src = x ∧ (s.entry k).srcTag = r.tag) →
      exec (.dispatch x) s = .next (s.resolveHead x r .undecoded .rejected (some .protocol) none))
    ∧ (r.kind = .pw ∨ (∀ k, (s.entry k).state.live = true → (s.entry k).src = x → (s.entry k).srcTag ≠ r.tag) →
      r.wellFormed = false →
      exec (.dispatch x) s =
        .next ((s.answer x r .malformed).resolveHead x r .undecoded .malformed (some .malformed) none))

/-- DISPATCH of a head that hits the aperture and is refused before the access (R41, R51, R52): no permission; a length or an
offset that is no word; an unassigned offset; a write of a register that is not writable. DISPATCH of a permitted RD of an
assigned register (R52, R179): one OK part with the register's 4 bytes, byte 0 first; the read itself changes nothing. -/
def Obligations.ManagementAccessIsRefusedOrRead : Prop :=
  (∀ (x : UPort) (r : Request) (s : State), s.Presents x r → r.addr &&& 0xFFFFFFFF0000#48 = s.mgmtBase →
    (s.mgmtPermit.getLsbD x.code = false →
      exec (.dispatch x) s = .next ((s.answer x r .denied).resolveHead x r .mgmt .denied (some .denied) none))
    ∧ (s.mgmtPermit.getLsbD x.code = true →
      (r.len.toNat ≠ 4 ∨ (r.addr - s.mgmtBase).toNat % 4 ≠ 0 →
        exec (.dispatch x) s = .next ((s.answer x r .malformed).resolveHead x r .mgmt .malformed (some .malformed) none))
      ∧ (r.len.toNat = 4 → (r.addr - s.mgmtBase).toNat % 4 = 0 →
        (regAt (r.addr - s.mgmtBase).toNat = none →
          exec (.dispatch x) s = .next ((s.answer x r .unmapped).resolveHead x r .mgmt .unmapped (some .unmapped) none))
        ∧ (∀ reg, regAt (r.addr - s.mgmtBase).toNat = some reg → r.kind ≠ .rd → reg.writable = false →
          exec (.dispatch x) s = .next ((s.answer x r .denied).resolveHead x r .mgmt .denied (some .denied) none)))))
  ∧ (∀ (x : UPort) (r : Request) (reg : Reg) (s : State), s.PresentsAccess x r reg → r.kind = .rd →
    exec (.dispatch x) s = .next
      ((s.placePart x
        { tag := r.tag
          status := .ok
          last := true
          data := [(s.readReg reg).extractLsb' 0 8, (s.readReg reg).extractLsb' 8 8, (s.readReg reg).extractLsb' 16 8,
            (s.readReg reg).extractLsb' 24 8] }).resolveHead x r .mgmt .mgmtDone none none))

/-- What the settings, the status words and the actions read (R178, R183, R185, R194, section 11.5): each field in its bits, and
zero in every other bit, as a number; the OTT summary (R94), ORPHAN_COUNT (R104) and the return load (R125, R126) are counted
from the table. A setting or count held as a number reads as that number. -/
def Obligations.SettingsAndStatusReadTheirFields : Prop :=
  (∀ s : State,
    s.readReg .id = 0xD5C82401 ∧ (s.readReg .strap).toNat = s.strap.toNat ∧ s.readReg .time = s.time
    ∧ (s.readReg .mgmtPermit).toNat = s.mgmtPermit.toNat
    ∧ (s.readReg .mgmtBaseLo).toNat = s.mgmtBase.toNat % 2 ^ 32 ∧ (s.readReg .mgmtBaseHi).toNat = s.mgmtBaseHi.toNat
    ∧ s.readReg .command = 0 ∧ s.readReg .clear = 0 ∧ s.readReg .release = 0 ∧ (∀ i, s.readReg (.control i) = 0)
    ∧ (s.readReg .commandResult).toNat =
        s.command.code.toNat + 2 ^ 8 * s.command.port.toNat + 2 ^ 16 * s.command.outcome.code + 2 ^ 24 * s.command.count.toNat
    ∧ (s.readReg .cause).toNat = s.notice.cause.toNat ∧ (s.readReg .enable).toNat = s.notice.enable.toNat
    ∧ (s.readReg .active).toNat = (s.notice.cause &&& s.notice.enable).toNat ∧ s.readReg .noticeAck = s.notice.seq
    ∧ (s.readReg .noticeStatus).toNat =
        s.notice.state.code + 2 ^ 4 * s.notice.repeatMark.toNat + 2 ^ 5 * s.notice.repeatDeadline.isSome.toNat
    ∧ (s.readReg .noticeAddrLo).toNat = s.notice.addr.toNat % 2 ^ 32
    ∧ (s.readReg .noticeAddrHi).toNat = s.notice.addr.toNat / 2 ^ 32
    ∧ (s.readReg .noticePort).toNat = s.notice.port.code ∧ s.readReg .noticeRepeat = BitVec.ofNat 32 s.notice.repeatMs
    ∧ s.readReg .noticesSent = s.notice.sent ∧ s.readReg .noticesCancelled = s.notice.cancelled
    ∧ s.readReg .repeats = s.notice.repeats
    ∧ (s.readReg .ottSummary).toNat =
        ((List.finRange 128).filter fun k => (s.entry k).state == .free).length
          + 2 ^ 8 * ((List.finRange 128).filter fun k => (s.entry k).state != .free && (s.entry k).src == .u0).length
          + 2 ^ 16 * ((List.finRange 128).filter fun k => (s.entry k).state != .free && (s.entry k).src == .u1).length
          + 2 ^ 24 * s.lastGrant.code
    ∧ (s.readReg .combine).toNat = s.capture.combine.code ∧ (s.readReg .trigger).toNat = s.capture.trigger.code
    ∧ (s.readReg .capMgmt).toNat = s.capture.capMgmt.code ∧ (s.readReg .capDefault).toNat = s.capture.capDefault.code
    ∧ s.readReg .postCount = BitVec.ofNat 32 s.capture.postCount ∧ s.readReg .threshold = BitVec.ofNat 32 s.capture.threshold
    ∧ (s.readReg .mode).toNat = s.capture.mode.code
    ∧ (s.capture.postRemain ≤ 255 → s.capture.buffer.length ≤ 256 →
        (s.readReg .captureStatus).toNat =
          s.capture.state.code + 2 ^ 8 * s.capture.postRemain + 2 ^ 16 * s.capture.buffer.length)
    ∧ (s.readReg .recordNumber).toNat = s.capture.nextRseq.toNat
    ∧ s.readReg .captureDropped = s.capture.dropped ∧ s.readReg .captureOverwritten = s.capture.overwritten)
  ∧ (∀ (x : UPort) (s : State),
    (s.readReg (.up x .status)).toNat = (s.up.get x).link.isUp.toNat + 2 ^ 4 * (s.up.get x).turn.code
    ∧ (s.readReg (.up x .defaultAction)).toNat = (s.up.get x).defaultAction.code
    ∧ s.readReg (.up x .reserve) = BitVec.ofNat 32 (s.up.get x).reserve
    ∧ s.readReg (.up x .ingressOccupancy) = BitVec.ofNat 32 (s.up.get x).ingress.length
    ∧ s.readReg (.up x .returnOccupancy) = BitVec.ofNat 32 (s.up.get x).returnQueue.length
    ∧ s.readReg (.up x .returnLoad) = BitVec.ofNat 32 ((s.up.get x).returnQueue.length + s.owedTo x)
    ∧ s.readReg (.up x .pendingCredits) = (s.up.get x).pendingCredits
    ∧ s.readReg (.up x .credits) = BitVec.ofNat 32 (s.up.get x).credits
    ∧ s.readReg (.up x .protocol) = (s.up.get x).counters.protocol
    ∧ s.readReg (.up x .forwarded) = (s.up.get x).counters.forwarded
    ∧ s.readReg (.up x .zeroFilled) = (s.up.get x).counters.zeroFilled
    ∧ s.readReg (.up x .mgmtDone) = (s.up.get x).counters.mgmtDone
    ∧ s.readReg (.up x .malformed) = (s.up.get x).counters.malformed
    ∧ s.readReg (.up x .denied) = (s.up.get x).counters.denied
    ∧ s.readReg (.up x .unmapped) = (s.up.get x).counters.unmapped
    ∧ s.readReg (.up x .unavailable) = (s.up.get x).counters.unavailable
    ∧ s.readReg (.up x .pwDiscarded) = (s.up.get x).counters.pwDiscarded
    ∧ s.readReg (.up x .damaged) = (s.up.get x).counters.damaged
    ∧ s.readReg (.up x .linkDowns) = (s.up.get x).counters.linkDowns
    ∧ s.readReg (.up x .linkUps) = (s.up.get x).counters.linkUps)
  ∧ (∀ (n : DPort) (s : State),
    (s.readReg (.down n .status)).toNat =
        (s.down.get n).link.isUp.toNat + 2 * (s.down.get n).fenced.toNat + 2 ^ 4 * (s.down.get n).reason.code
          + 2 ^ 8 * (s.down.get n).retrained.toNat + 2 ^ 9 * (s.down.get n).degraded.toNat
          + 2 ^ 16 * (s.down.get n).badRun.toNat + 2 ^ 24 * (s.down.get n).goodRun.toNat
    ∧ (s.readReg (.down n .orphanCount)).toNat =
        ((List.finRange 128).filter fun k => (s.entry k).state == .orphan && (s.entry k).egress == n).length
    ∧ s.readReg (.down n .rspTimeout) = BitVec.ofNat 32 (s.down.get n).rspTimeout
    ∧ s.readReg (.down n .orphanLimit) = BitVec.ofNat 32 (s.down.get n).orphanLimit
    ∧ s.readReg (.down n .degOn) = BitVec.ofNat 32 (s.down.get n).degOn
    ∧ s.readReg (.down n .degOff) = BitVec.ofNat 32 (s.down.get n).degOff
    ∧ s.readReg (.down n .fenceLimit) = BitVec.ofNat 32 (s.down.get n).fenceLimit
    ∧ s.readReg (.down n .egressOccupancy) = BitVec.ofNat 32 (s.down.get n).egress.length
    ∧ s.readReg (.down n .credits) = BitVec.ofNat 32 (s.down.get n).credits
    ∧ (s.readReg (.down n .admission)).toNat = (s.down.get n).admission.code
    ∧ s.readReg (.down n .stray) = (s.down.get n).counters.stray
    ∧ s.readReg (.down n .nonconforming) = (s.down.get n).counters.nonconforming
    ∧ s.readReg (.down n .timeouts) = (s.down.get n).counters.timeouts
    ∧ s.readReg (.down n .late) = (s.down.get n).counters.late
    ∧ s.readReg (.down n .protocol) = (s.down.get n).counters.protocol
    ∧ s.readReg (.down n .requestsSent) = (s.down.get n).counters.requestsSent
    ∧ s.readReg (.down n .pwDropped) = (s.down.get n).counters.pwDropped
    ∧ s.readReg (.down n .crIgnored) = (s.down.get n).counters.crIgnored
    ∧ s.readReg (.down n .damaged) = (s.down.get n).counters.damaged
    ∧ s.readReg (.down n .linkDowns) = (s.down.get n).counters.linkDowns
    ∧ s.readReg (.down n .linkUps) = (s.down.get n).counters.linkUps
    ∧ s.readReg (.down n .fences) = (s.down.get n).counters.fences)

/-- What the words of window records, of match units, of the OTT view and of HEAD read (R31, R39, R93, R160, R163, R193, sections
11.3 to 11.5): each field in its bits, and zero in every other bit. A 48-bit address reads as a low word and the lower half of a
high word. HEAD shows the oldest record, and an absent part of it as zero with its presence bit clear; on an empty buffer it reads
as zero. -/
def Obligations.ViewsReadTheirFields : Prop :=
  (∀ (i : Fin 16) (c : WindowConfig) (read : WindowWord → Word) (s : State),
    (c = (s.window i).staging ∧ (∀ w, read w = s.readReg (.staging i w))
      ∨ c = (s.window i).active ∧ ∀ w, read w = s.readReg (.activeView i (.configured w))) →
    (read .baseLo).toNat = c.base.toNat % 2 ^ 32 ∧ (read .baseHi).toNat = c.base.toNat / 2 ^ 32
    ∧ (read .maskLo).toNat = c.mask.toNat % 2 ^ 32 ∧ (read .maskHi).toNat = c.mask.toNat / 2 ^ 32
    ∧ (read .xbaseLo).toNat = c.xbase.toNat % 2 ^ 32 ∧ (read .xbaseHi).toNat = c.xbase.toNat / 2 ^ 32
    ∧ (read .config).toNat =
        c.valid.toNat + 2 * c.sources.toNat + 2 ^ 4 * c.targetKind.code + 2 ^ 6 * c.portNumber.toNat
          + 2 ^ 12 * c.spreadSet.toNat + 2 ^ 16 * c.select.toNat + 2 ^ 24 * c.permit.toNat + 2 ^ 28 * c.capture.code)
  ∧ (∀ (i : Fin 16) (s : State),
    s.readReg (.activeView i .hits) = (s.window i).hits
    ∧ (s.readReg (.activeView i .commitStatus)).toNat = (s.window i).status.code)
  ∧ (∀ (u : MatchName) (m : MatchUnit) (s : State), (m = match u with | .a => s.capture.unitA | .b => s.capture.unitB) →
    (s.readReg (.matchUnit u .sets)).toNat = m.kindSet.toNat + 2 ^ 4 * m.portSet.toNat
    ∧ (s.readReg (.matchUnit u .window)).toNat = m.windowValue.toNat + 2 ^ 8 * m.windowCare.toNat
    ∧ (s.readReg (.matchUnit u .addrValueLo)).toNat = m.addrValue.toNat % 2 ^ 32
    ∧ (s.readReg (.matchUnit u .addrValueHi)).toNat = m.addrValue.toNat / 2 ^ 32
    ∧ (s.readReg (.matchUnit u .addrCareLo)).toNat = m.addrCare.toNat % 2 ^ 32
    ∧ (s.readReg (.matchUnit u .addrCareHi)).toNat = m.addrCare.toNat / 2 ^ 32)
  ∧ (∀ (k : Fin 128) (s : State), (s.entry k).len ≤ 256 → (s.entry k).received ≤ 256 →
    (s.readReg (.ottView k 0)).toNat =
        (s.entry k).len + 2 ^ 9 * (s.entry k).state.code + 2 ^ 12 * (s.entry k).src.code + 2 ^ 13 * (s.entry k).kind.code
          + 2 ^ 14 * (s.entry k).cap.toNat + 2 ^ 15 * (s.entry k).deadline.isSome.toNat + 2 ^ 16 * (s.entry k).egress.code
          + 2 ^ 20 * (s.entry k).window.val + 2 ^ 24 * (s.entry k).srcTag.toNat
    ∧ (s.readReg (.ottView k 1)).toNat = (s.entry k).xaddr.toNat % 2 ^ 32
    ∧ (s.readReg (.ottView k 2)).toNat = (s.entry k).xaddr.toNat / 2 ^ 32 + 2 ^ 16 * (s.entry k).received
    ∧ s.readReg (.ottView k 3) = (s.entry k).dispatchTime)
  ∧ (∀ s : State,
    (s.capture.buffer = [] → ∀ w, s.readReg (.head w) = 0)
    ∧ (∀ (r : Record) (rest : List Record), s.capture.buffer = r :: rest →
      s.readReg (.head 1) = r.time ∧ s.readReg (.head 7) = 0
      ∧ (∀ port tag kind addr len window disposition xaddr egress ott,
        r.body = .request port tag kind addr len window disposition xaddr egress ott →
        (s.readReg (.head 0)).toNat =
            r.rseq.toNat + 2 ^ 16 + 2 ^ 18 * r.trigger.toNat + 2 ^ 19 * xaddr.isSome.toNat + 2 ^ 20 * egress.isSome.toNat
              + 2 ^ 21 * ott.isSome.toNat
        ∧ (s.readReg (.head 2)).toNat =
            tag.toNat + 2 ^ 8 * len.toNat + 2 ^ 17 * window.toNat + 2 ^ 22 * disposition.code + 2 ^ 26 * kind.code
              + 2 ^ 28 * port.code + 2 ^ 29 * (egress.elim 0 DPort.code)
        ∧ (s.readReg (.head 3)).toNat = addr.toNat % 2 ^ 32
        ∧ (s.readReg (.head 4)).toNat = addr.toNat / 2 ^ 32 + 2 ^ 16 * (ott.elim 0 fun k => k.val)
        ∧ (s.readReg (.head 5)).toNat = (xaddr.elim 0 fun a => a.toNat % 2 ^ 32)
        ∧ (s.readReg (.head 6)).toNat = (xaddr.elim 0 fun a => a.toNat / 2 ^ 32))
      ∧ (∀ port tag ott status bytes latency, r.body = .completion port tag ott status bytes latency → bytes ≤ 256 →
        (s.readReg (.head 0)).toNat = r.rseq.toNat + 2 ^ 16 * 2 + 2 ^ 18 * r.trigger.toNat + 2 ^ 21
        ∧ (s.readReg (.head 2)).toNat = tag.toNat + 2 ^ 8 * bytes + 2 ^ 17 * status.code + 2 ^ 28 * port.code
        ∧ s.readReg (.head 3) = latency ∧ (s.readReg (.head 4)).toNat = 2 ^ 16 * ott.val
        ∧ s.readReg (.head 5) = 0 ∧ s.readReg (.head 6) = 0)))

/-- DISPATCH of a management write does what the row of that write does (log 6): every write of a register that a row of the
table names, whichever it is. -/
def Obligations.DispatchOfAWriteIsItsRow : Prop :=
  ∀ (x : UPort) (r : Request) (reg : Reg) (v : Word) (c : Instr) (s : State), s.PresentsWrite x r reg v →
    rowOfWrite x reg v = some c → exec (.dispatch x) s = exec c s

/-- The window search (R23): the lowest index whose active entry is valid, admits the port and is hit by the address. -/
def Obligations.WindowSearchTakesTheLowestHit : Prop :=
  ∀ (x : UPort) (a : Addr) (s : State),
    (∀ i, s.windowSearch x a = some i ↔
      ((s.window i).active.valid = true ∧ (s.window i).active.sources.getLsbD x.code = true
          ∧ a &&& (s.window i).active.mask = (s.window i).active.base)
        ∧ ∀ j, j < i → ¬ ((s.window j).active.valid = true ∧ (s.window j).active.sources.getLsbD x.code = true
          ∧ a &&& (s.window j).active.mask = (s.window j).active.base))
    ∧ (s.windowSearch x a = none ↔ ∀ j, ¬ ((s.window j).active.valid = true
          ∧ (s.window j).active.sources.getLsbD x.code = true ∧ a &&& (s.window j).active.mask = (s.window j).active.base))

/-- Translation and egress port of a window that passes the commit checks and is not REFUSE (R22, R25 to R27): XADDR is
XBASE + (ADDR - BASE); a PORT target names its port; a SPREAD target takes the member that the selecting bits pick. -/
def Obligations.ValidWindowTranslatesAndSpreads : Prop :=
  ∀ (c : WindowConfig) (a : Addr), commitCheck c = .ok → a &&& c.mask = c.base → c.targetKind ≠ .refuse →
    c.translate a = c.xbase + (a - c.base)
    ∧ (c.targetKind = .port → (c.egressPort a).code = c.portNumber.toNat)
    ∧ (∀ m0 m1, c.targetKind = .spread → spreadMembers c.spreadSet = [m0, m1] →
        c.egressPort a = if a.getLsbD c.select.toNat then m1 else m0)
    ∧ (c.targetKind = .spread → c.spreadSet = 0b1111#4 →
        (c.egressPort a).code = 2 * (a.getLsbD (c.select.toNat + 1)).toNat + (a.getLsbD c.select.toNat).toNat)

/-- DISPATCH of a head outside the aperture whose window refuses it or whose port is out of service (R24, R30, R53, R54):
DENIED with its cause, or UNAVAILABLE without one; HITS has counted. -/
def Obligations.WindowRefusesOrPortIsUnavailable : Prop :=
  ∀ (x : UPort) (r : Request) (i : Fin 16) (s : State), s.PresentsOutside x r → s.windowSearch x r.addr = some i →
    ((s.window i).active.targetKind = .refuse ∨ (s.window i).active.permit.getLsbD r.kind.code = false →
      exec (.dispatch x) s = .next
        (((s.onWindow i fun e => { e with hits := satInc e.hits }).answer x r .denied).resolveHead x r
          (.window i (s.window i).active.capture) .denied (some .denied) none))
    ∧ ((s.window i).active.targetKind ≠ .refuse → (s.window i).active.permit.getLsbD r.kind.code = true →
      s.available ((s.window i).active.egressPort r.addr) = false →
      exec (.dispatch x) s = .next
        (((s.onWindow i fun e => { e with hits := satInc e.hits }).answer x r .unavailable).resolveHead x r
          (.window i (s.window i).active.capture) .unavailable none none))

/-- DISPATCH of a head with no hit (R55, R56, R58): UNMAPPED under UNMAPPED_ERROR; under ZERO_FILL a RD gets parts of zeros of
LEN bytes in all, each but the last of 64, and with room the return queue is the old one followed by them; a WR gets an OK part, a
PW nothing. -/
def Obligations.NoHitTakesTheDefaultAction : Prop :=
  ∀ (x : UPort) (r : Request) (s : State), s.PresentsOutside x r → s.windowSearch x r.addr = none →
    ((s.up.get x).defaultAction = .unmappedError →
      exec (.dispatch x) s = .next ((s.answer x r .unmapped).resolveHead x r .noHit .unmapped (some .unmapped) none))
    ∧ ((s.up.get x).defaultAction = .zeroFill →
      (r.kind = .rd → ∃ parts : List Part,
        exec (.dispatch x) s = .next ((s.placeParts x parts).resolveHead x r .noHit .zeroFilled none none)
        ∧ parts.length = (r.len.toNat + 63) / 64
        ∧ (parts.map fun p => p.data.length).sum = r.len.toNat
        ∧ (∀ j : Nat, ∀ p : Part, parts[j]? = some p →
            p.tag = r.tag ∧ p.status = .ok ∧ (p.last = true ↔ j + 1 = parts.length)
              ∧ (p.last = false → p.data.length = 64) ∧ (∀ b ∈ p.data, b = 0))
        ∧ ((s.up.get x).returnQueue.length + parts.length ≤ 576 →
          s.placeParts x parts = s.onUp x fun u => { u with returnQueue := u.returnQueue ++ parts }))
      ∧ (r.kind ≠ .rd → exec (.dispatch x) s = .next ((s.answer x r .ok).resolveHead x r .noHit .zeroFilled none none)))

/-- DISPATCH and FORWARDING of a head whose decode comes to FORWARD toward a port in service (R24 to R30, R54, R60, R61, R73):
HITS counts, the decode result is kept, and the allocation event follows. FORWARDING of a waiting head is an allocation event
(log 7). -/
def Obligations.ForwardDecodeMeetsTheAllocationEvent : Prop :=
  ∀ (x : UPort) (r : Request) (s : State),
    (∀ i, s.PresentsOutside x r → s.windowSearch x r.addr = some i → (s.window i).active.targetKind ≠ .refuse →
      (s.window i).active.permit.getLsbD r.kind.code = true →
      s.available ((s.window i).active.egressPort r.addr) = true →
      exec (.dispatch x) s = .next (s.decodedForward x r i).allocate
        ∧ exec (.forwarding x) s = .next (s.decodedForward x r i).allocate)
    ∧ (s.held = false → (∃ d, s.waitingHead x = some (r, d)) → exec (.forwarding x) s = .next s.allocate)

/-- An entry is free to a head of p under the reserves when F is at least 1 and the grant leaves what the other port's reserve
still asks (R72). -/
def Obligations.EligibilityKeepsTheReserve : Prop :=
  ∀ (p : UPort) (s : State),
    s.eligible p = true ↔
      1 ≤ ((List.finRange 128).filter fun k => (s.entry k).state == .free).length
        ∧ (s.up.get p.other).reserve
            ≤ ((List.finRange 128).filter fun k => (s.entry k).state == .free).length - 1
              + ((List.finRange 128).filter fun k => (s.entry k).state != .free && (s.entry k).src == p.other).length

/-- FORWARDING (R60, R74, R75, R97, R112, R113): of a head, freshly decoded or waiting, that alone wants what is free to it. A
RD or WR takes the FREE entry of lowest index, filled from the head and its decode result, with the slot; a PW takes the
slot. The item joins last, the pointer and the last-grant record are set, and the head resolves FORWARDED. -/
def Obligations.ForwardingTakesEntryAndSlot : Prop :=
  ∀ (x : UPort) (r : Request) (d : Decoded) (s s' : State), s.held = false →
    ((s.waitingHead x = some (r, d) ∧ s' = s)
      ∨ (s.PresentsOutside x r ∧ s.windowSearch x r.addr = some d.window
          ∧ (s.window d.window).active.targetKind ≠ .refuse
          ∧ (s.window d.window).active.permit.getLsbD r.kind.code = true
          ∧ d = s.decodeResult r d.window ∧ s' = s.decodedForward x r d.window)) →
    s'.available d.egress = true → (s'.down.get d.egress).egress.length < 32 → s'.wantsSlot x.other = none →
    (r.kind = .pw →
      exec (.forwarding x) s = .next
        ((s'.onDown d.egress fun q =>
          { q with egress := q.egress ++ [.posted d.xaddr r.len r.data], admission := x }).resolveHead x r
            (.window d.window d.capture) .forwarded none (some { xaddr := d.xaddr, egress := d.egress, ott := none })))
    ∧ (∀ (kind : AnsweredKind) (k : Fin 128), r.kind.answered = some kind → s'.eligible x = true →
      (s'.entry k).state = .free → (∀ j, j < k → (s'.entry j).state ≠ .free) →
      exec (.forwarding x) s = .next
        (((({ s' with lastGrant := x } : State).onEntry k fun _ =>
            { state := .pending
              src := x
              srcTag := r.tag
              kind := kind
              egress := d.egress
              xaddr := d.xaddr
              len := r.len.toNat
              received := 0
              deadline :=
                if (s'.down.get d.egress).rspTimeout = 0 then none
                else some (s'.time + BitVec.ofNat 32 (s'.down.get d.egress).rspTimeout)
              window := d.window
              cap := s'.capture.candidate
                { port := x, request := r, code := .window d.window d.capture, disposition := .forwarded,
                  forward := some { xaddr := d.xaddr, egress := d.egress, ott := some k } }
              dispatchTime := s'.time }).onDown d.egress fun q =>
          { q with egress := q.egress ++ [.entry k r.data], admission := x }).resolveHead x r
            (.window d.window d.capture) .forwarded none (some { xaddr := d.xaddr, egress := d.egress, ott := some k })))

/-- An allocation event at which no head wants what is free to it changes nothing (R61, R73, R113). The arbiters where both
heads want (R63, R74, R113): the last slot of a queue goes to the head of the port that does not hold the admission pointer;
the last entry goes to the head of the port that does not hold the last-grant record; the other head goes on waiting. -/
def Obligations.WaitingHeadsAndContention : Prop :=
  (∀ s : State, (∀ x, s.wantsSlot x = none) → s.allocate = s)
  ∧ (∀ (x : UPort) (r r' : Request) (d d' : Decoded) (s : State),
    s.waitingHead x = some (r, d) → s.waitingHead x.other = some (r', d') →
    s.wantsSlot x = some d.egress → s.wantsSlot x.other = some d'.egress →
    (d.egress = d'.egress → (s.down.get d.egress).egress.length = 31 → (s.down.get d.egress).admission = x.other →
      (s.allocate.up.get x).ingress = (s.up.get x).ingress.tail
        ∧ (s.allocate.up.get x).counters.forwarded = satInc (s.up.get x).counters.forwarded
        ∧ s.allocate.up.get x.other = s.up.get x.other
        ∧ (s.allocate.down.get d.egress).egress.length = 32 ∧ (s.allocate.down.get d.egress).admission = x)
    ∧ (r.kind ≠ .pw → r'.kind ≠ .pw → s.freeEntries = 1 →
      (d.egress ≠ d'.egress ∨ (s.down.get d.egress).egress.length < 31) → s.lastGrant = x.other →
      (s.allocate.up.get x).ingress = (s.up.get x).ingress.tail
        ∧ (s.allocate.up.get x).counters.forwarded = satInc (s.up.get x).counters.forwarded
        ∧ s.allocate.up.get x.other = s.up.get x.other
        ∧ s.allocate.lastGrant = x ∧ s.allocate.freeEntries = 0))

/-- An allocation event that forwards both heads (R60, R63, R73 to R75, R113): the head of the port that does not hold the
last-grant record takes the FREE entry of lowest index, the other head the next one; each item joins its queue, in one queue the
head of the port that does not hold the pointer first, and the pointer stays with the port that joined last; both heads leave
with their credits as FORWARDED. Two RD or WR heads are handed in the order of their grants (deduced, log 10); where one is a PW
the order is free. -/
def Obligations.AllocationForwardsBothHeads : Prop :=
  ∀ (x : UPort) (r r' : Request) (d d' : Decoded) (tk tk' : Ticket) (s : State),
    s.waitingHead x = some (r, d) → s.waitingHead x.other = some (r', d') → s.lastGrant = x.other →
    s.wantsSlot x = some d.egress → s.wantsSlot x.other = some d'.egress →
    (d.egress = d'.egress → (s.down.get d.egress).egress.length ≤ 30) →
    s.Takes r none tk → s.Takes r' (some tk) tk' →
    (∀ y, s.allocate.up.get y =
        { s.up.get y with
          ingress := (s.up.get y).ingress.tail
          waiting := none
          pendingCredits := satInc (s.up.get y).pendingCredits
          counters := { (s.up.get y).counters with forwarded := satInc (s.up.get y).counters.forwarded } })
    ∧ (d.egress = d'.egress →
      s.allocate.down.get d.egress =
        { s.down.get d.egress with
          egress := (s.down.get d.egress).egress
            ++ if (s.down.get d.egress).admission = x.other then [itemOf r d tk, itemOf r' d' tk']
              else [itemOf r' d' tk', itemOf r d tk] })
    ∧ (d.egress ≠ d'.egress →
      s.allocate.down.get d.egress =
          { s.down.get d.egress with egress := (s.down.get d.egress).egress ++ [itemOf r d tk], admission := x }
      ∧ s.allocate.down.get d'.egress =
          { s.down.get d'.egress with egress := (s.down.get d'.egress).egress ++ [itemOf r' d' tk'], admission := x.other })
    ∧ (∀ n, n ≠ d.egress → n ≠ d'.egress → s.allocate.down.get n = s.down.get n)
    ∧ (∀ k, tk = .entry k → s.Grants x k (s.allocate.entry k))
    ∧ (∀ k, tk' = .entry k → s.Grants x.other k (s.allocate.entry k))
    ∧ (∀ k, tk ≠ .entry k → tk' ≠ .entry k → s.allocate.entry k = s.entry k)
    ∧ (s.allocate.lastGrant =
        match tk, tk' with
        | _, .entry _ => x.other
        | .entry _, .slot => x
        | .slot, .slot => x.other)
    ∧ (r.kind ≠ .pw → r'.kind ≠ .pw →
      s.allocate.capture =
        ((s.handRequest (forwardHanding x r d tk)).handRequest (forwardHanding x.other r' d' tk')).capture)
    ∧ (s.allocate.capture =
        ((s.handRequest (forwardHanding x r d tk)).handRequest (forwardHanding x.other r' d' tk')).capture
      ∨ s.allocate.capture =
        ((s.handRequest (forwardHanding x.other r' d' tk')).handRequest (forwardHanding x r d tk)).capture)
    ∧ s.allocate.outputs = s.outputs ∧ s.allocate.settings = s.settings ∧ s.allocate.windows = s.windows

/-! ### Transmission -/

/-- ISSUE (R77, R112, R115, R116, R120): of the head item of a port in service with a credit; the request it stands for is
transmitted, the credit is spent, the entry is ISSUED, and the freed slot is an allocation event. Where a condition fails
nothing is issued. -/
def Obligations.IssueTransmitsTheHeadItem : Prop :=
  ∀ (n : DPort) (s : State), s.held = false →
    (s.available n = false ∨ (s.down.get n).credits = 0 ∨ (s.down.get n).egress = [] → exec (.issue n) s = .next s)
    ∧ (s.available n = true → 1 ≤ (s.down.get n).credits →
      (∀ (xaddr : Addr) (len : BitVec 9) (data : List Byte) (rest : List EgressItem),
        (s.down.get n).egress = .posted xaddr len data :: rest →
        exec (.issue n) s = .next
          ((s.emit (.message (.down n) (.request
              { kind := .pw, tag := 0, addr := xaddr, len := len, data := data }))).onDown n fun q =>
            { q with
              egress := rest
              credits := q.credits - 1
              counters := { q.counters with requestsSent := satInc q.counters.requestsSent } }).allocate)
      ∧ (∀ (k : Fin 128) (data : List Byte) (rest : List EgressItem), (s.down.get n).egress = .entry k data :: rest →
        exec (.issue n) s = .next
          (((s.emit (.message (.down n) (.request
              { kind := if (s.entry k).kind = .rd then .rd else .wr
                tag := BitVec.ofNat 8 k.val
                addr := (s.entry k).xaddr
                len := BitVec.ofNat 9 (s.entry k).len
                data := data }))).onDown n fun q =>
            { q with
              egress := rest
              credits := q.credits - 1
              counters := { q.counters with requestsSent := satInc q.counters.requestsSent } }).onEntry k fun e =>
            { e with state := .issued }).allocate))

/-- CR_TRANSMIT (R15, R121, R122, R125, R126): while the port is UP, owes a credit and its return load is at most 512, the CR of
the pending count, at most 64, goes out; otherwise no CR does. The return load counts the parts in the return queue and those
owed: for a live RD the fewest parts of at most 64 bytes that hold its remaining bytes, for a live WR one, for an ORPHAN or FREE
entry none. RESPONSE_PART_TRANSMIT (R59, R121, R123): while no CR is eligible, the head of the return queue goes out as it was placed,
unless a notice that is QUEUED on this port with a credit has the turn. -/
def Obligations.CrAndPartTransmitFollowTheArbiter : Prop :=
  (∀ (x : UPort) (s : State), s.held = false →
    exec (.crTransmit x) s = .next
      (if (s.up.get x).link = .up ∧ 1 ≤ (s.up.get x).pendingCredits.toNat
          ∧ (s.up.get x).returnQueue.length + s.owedTo x ≤ 512 then
        (s.emit (.message (.up x) (.cr (BitVec.ofNat 7 (min (s.up.get x).pendingCredits.toNat 64))))).onUp x fun u =>
          { u with pendingCredits := u.pendingCredits - BitVec.ofNat 32 (min u.pendingCredits.toNat 64) }
      else s))
  ∧ (∀ e : OttEntry,
    (e.state = .orphan ∨ e.state = .free → e.owed = 0)
    ∧ (e.state = .pending ∨ e.state = .issued ∨ e.state = .streaming →
      (e.kind = .wr → e.owed = 1)
      ∧ (e.kind = .rd → e.len - e.received ≤ 64 * e.owed ∧ 64 * e.owed < e.len - e.received + 64)))
  ∧ (∀ (x : UPort) (p : Part) (rest : List Part) (s : State), s.held = false → (s.up.get x).link = .up →
    (s.up.get x).returnQueue = p :: rest →
    (s.up.get x).pendingCredits.toNat = 0 ∨ 512 < (s.up.get x).returnQueue.length + s.owedTo x →
    exec (.responsePartTransmit x) s = .next
      (if s.notice.state = .queued ∧ s.notice.port = x ∧ 1 ≤ (s.up.get x).credits ∧ (s.up.get x).turn = .returned then s
      else (s.emit (.message (.up x) (.rsp p))).onUp x fun u => { u with returnQueue := rest, turn := .returned }))

/-- NOTICE_TRANSMIT (R121, R124, R170, R171): where the arbiter chooses the QUEUED notice, a snapshot that is not empty goes
out as a PW of 8 bytes, the snapshot and SEQ, and the unit is SENT; an empty one is cancelled, and a part that waits goes out
in its place (in the same step: log 12). -/
def Obligations.NoticeTransmitSendsOrCancels : Prop :=
  ∀ (x : UPort) (s : State), s.held = false → (s.up.get x).link = .up →
    (s.up.get x).pendingCredits.toNat = 0 ∨ 512 < (s.up.get x).returnQueue.length + s.owedTo x →
    s.notice.state = .queued → s.notice.port = x → 1 ≤ (s.up.get x).credits →
    ((s.up.get x).returnQueue = [] ∨ (s.up.get x).turn = .returned) →
    (s.notice.cause &&& s.notice.enable ≠ 0 →
      exec (.noticeTransmit x) s = .next
        (((s.emit (.message (.up x) (.request
            { kind := .pw
              tag := 0
              addr := s.notice.addr
              len := 8
              data := wordBytes ((s.notice.cause &&& s.notice.enable).setWidth 32) ++ wordBytes s.notice.seq }))).onUp x
          fun u => { u with credits := u.credits - 1, turn := .notice }).onNotice fun u =>
            { u with
              state := .sent
              repeatMark := false
              repeatDeadline :=
                if u.repeatMs = 0 then none
                else some (s.time + BitVec.ofNat 32 (u.repeatMs * 1000))
              sent := satInc u.sent }))
    ∧ (s.notice.cause &&& s.notice.enable = 0 →
      exec (.noticeTransmit x) s = .next
        (match (s.up.get x).returnQueue with
        | [] =>
          s.onNotice fun u =>
            { u with state := .idle, repeatMark := false, repeatDeadline := none, cancelled := satInc u.cancelled }
        | p :: rest =>
          ((s.onNotice fun u =>
            { u with state := .idle, repeatMark := false, repeatDeadline := none, cancelled := satInc u.cancelled }).emit
              (.message (.up x) (.rsp p))).onUp x fun u => { u with returnQueue := rest, turn := .returned }))

/-! ### Time -/

/-- EXPIRY of an entry whose deadline TIME has reached (R86, R98 to R102, R106): TIMEOUTS and cause TIMEOUT; a PENDING entry's
item leaves its queue, TIMEOUT is answered and the entry is released, an allocation event (its place in the event: log 8); an
ISSUED or STREAMING entry answers TIMEOUT and becomes ORPHAN, with the orphan limit test. A completion is handed for an entry with
CAP set, so that its latency is the time from the forwarding to the moment. At any other TIME, and without a deadline, no entry
expires (the command then names no event: log 4). -/
def Obligations.ExpiryAnswersTimeout : Prop :=
  ∀ (k : Fin 128) (s : State), s.held = false →
    ((s.entry k).deadline ≠ some s.time → exec (.expiry k) s = .next s)
    ∧ ((s.entry k).deadline = some s.time →
      ((s.entry k).state = .pending →
        exec (.expiry k) s = .next
          ((((((s.timedOut k).onDown (s.entry k).egress fun q =>
              { q with egress := q.egress.filter fun i => !i.standsFor k }).placePart (s.entry k).src
            { tag := (s.entry k).srcTag, status := .timeout, last := true, data := [] }).complete k .timeout).onEntry k
              fun e => { e with state := .free, deadline := none, cap := false }).allocate))
      ∧ ((s.entry k).state = .issued ∨ (s.entry k).state = .streaming →
        exec (.expiry k) s = .next
          ((((s.timedOut k).placePart (s.entry k).src
            { tag := (s.entry k).srcTag, status := .timeout, last := true, data := [] }).complete k .timeout).finished
              (s.entry k).egress k false)))

/-- TIME_ADVANCE (R183): TIME rises by one and wraps, and nothing else changes; while the expiry of an entry or the repeat of the
notice is due at TIME as it stands, TIME waits for that event (R98, R173; log 17). REPEAT_EXPIRY of a SENT notice whose repeat
deadline TIME has reached (R173): QUEUED with the repeat mark, the deadline removed, SEQ as it was, REPEATS counted; otherwise
nothing repeats (log 4). -/
def Obligations.TimeAndRepeatExpiry : Prop :=
  (∀ s : State, s.held = false →
    ((∀ k, (s.entry k).state.live = true → (s.entry k).deadline ≠ some s.time) →
      (s.notice.state = .sent → s.notice.repeatDeadline ≠ some s.time) →
      exec .timeAdvance s = .next { s with time := s.time + 1 })
    ∧ ((∃ k, (s.entry k).state.live = true ∧ (s.entry k).deadline = some s.time)
        ∨ s.notice.state = .sent ∧ s.notice.repeatDeadline = some s.time →
      exec .timeAdvance s = .next s))
  ∧ (∀ s : State, s.held = false →
    (s.notice.state = .sent → s.notice.repeatDeadline = some s.time →
      exec .repeatExpiry s = .next
        (s.onNotice fun u =>
          { u with state := .queued, repeatMark := true, repeatDeadline := none, repeats := satInc u.repeats }))
    ∧ (s.notice.state ≠ .sent ∨ s.notice.repeatDeadline ≠ some s.time → exec .repeatExpiry s = .next s))

/-! ### Management writes -/

/-- What a management write leaves beside its effect (R44, R48, R52, R58, R64): an accepted WR is answered OK in a return queue
with room, the head leaves with its credit and counts MGMT_DONE; a refused one is answered DENIED, counts DENIED, and a
refused PW counts PW_DISCARDED. -/
def Obligations.ManagementWriteIsAnsweredAndCounted : Prop :=
  ∀ (x : UPort) (r : Request) (s : State), (s.up.get x).returnQueue.length < 576 →
    (s.accepted x r id).up.get x =
        { s.up.get x with
          ingress := (s.up.get x).ingress.tail
          waiting := none
          returnQueue := (s.up.get x).returnQueue ++ finalParts r .ok
          pendingCredits := satInc (s.up.get x).pendingCredits
          counters := { (s.up.get x).counters with mgmtDone := satInc (s.up.get x).counters.mgmtDone } }
    ∧ (s.accepted x r id).up.get x.other = s.up.get x.other
    ∧ (s.accepted x r id).down = s.down ∧ (s.accepted x r id).ott = s.ott ∧ (s.accepted x r id).windows = s.windows
    ∧ (s.accepted x r id).settings = s.settings
    ∧ ∀ cause, (s.refused x r cause id).up.get x =
        { s.up.get x with
          ingress := (s.up.get x).ingress.tail
          waiting := none
          returnQueue := (s.up.get x).returnQueue ++ finalParts r .denied
          pendingCredits := satInc (s.up.get x).pendingCredits
          counters :=
            { (s.up.get x).counters with
              denied := satInc (s.up.get x).counters.denied
              pwDiscarded :=
                if r.kind = .pw then satInc (s.up.get x).counters.pwDiscarded else (s.up.get x).counters.pwDiscarded } }
      ∧ (s.refused x r cause id).notice.cause.getLsbD cause.position = true
      ∧ (s.refused x r cause id).up.get x.other = s.up.get x.other
      ∧ (s.refused x r cause id).down = s.down ∧ (s.refused x r cause id).ott = s.ott
      ∧ (s.refused x r cause id).settings = s.settings

/-- The seven checks of a COMMIT all pass (R34) exactly when MASK is k ones from bit 47 followed by zeros with k at most 36,
BASE and, but for REFUSE, XBASE lie in it, there is a source, the target names its ports, the selecting bits lie among the
offset bits from bit 8 on, and, but for REFUSE, something is permitted. Where one fails, the code is that of the first failing
check in the order of R34. -/
def Obligations.CommitChecksSayWhatIsInstalled : Prop :=
  (∀ c : WindowConfig,
    commitCheck c = .ok ↔
      ∃ k : Nat, k ≤ 36 ∧ c.mask.toNat = 2 ^ 48 - 2 ^ (48 - k)
        ∧ c.base &&& ~~~ c.mask = 0
        ∧ (c.targetKind ≠ .refuse → c.xbase &&& ~~~ c.mask = 0)
        ∧ c.sources ≠ 0
        ∧ (c.targetKind = .port → c.portNumber.toNat < 4)
        ∧ (c.targetKind = .spread →
          ((spreadMembers c.spreadSet).length = 2 ∧ c.select.toNat < 48 - k
            ∨ (spreadMembers c.spreadSet).length = 4 ∧ c.select.toNat + 1 < 48 - k)
          ∧ 8 ≤ c.select.toNat)
        ∧ (c.targetKind ≠ .refuse → c.permit ≠ 0))
  ∧ (∀ c : WindowConfig,
    ((∀ k, k ≤ 36 → c.mask.toNat ≠ 2 ^ 48 - 2 ^ (48 - k)) → commitCheck c = .maskShape)
    ∧ ∀ k : Nat, k ≤ 36 → c.mask.toNat = 2 ^ 48 - 2 ^ (48 - k) →
      commitCheck c =
        if c.base &&& ~~~ c.mask ≠ 0 then .baseAlign
        else if c.targetKind ≠ .refuse ∧ c.xbase &&& ~~~ c.mask ≠ 0 then .xbaseAlign
        else if c.sources = 0 then .noSource
        else if c.targetKind = .port ∧ 4 ≤ c.portNumber.toNat
            ∨ c.targetKind = .spread ∧ ¬ ((spreadMembers c.spreadSet).length = 2 ∨ (spreadMembers c.spreadSet).length = 4) then
          .badTarget
        else if c.targetKind = .spread
            ∧ (c.select.toNat < 8 ∨ 48 - k ≤ c.select.toNat + (spreadMembers c.spreadSet).length / 2 - 1) then
          .badSelect
        else if c.targetKind ≠ .refuse ∧ c.permit = 0 then .noPermit
        else .ok)

/-- COMMIT (R32 to R36): a staging record without VALID is installed unchecked; one with VALID is installed where it passes the
checks; else the active entry stays, COMMIT_STATUS holds the failing check, and the write is refused with COMMIT_REFUSED.
DISABLE (R37): VALID of the active entry is cleared; its other fields, the staging record, HITS and COMMIT_STATUS stay. Any
other value of the control word is refused with DENIED and has no effect on the entry (R32); DISPATCH alone takes it (log 6). -/
def Obligations.ControlWordsCommitDisableOrAreDenied : Prop :=
  (∀ (x : UPort) (i : Fin 16) (r : Request) (s : State), s.PresentsWrite x r (.control i) 1 →
    ((s.window i).staging.valid = false ∨ commitCheck (s.window i).staging = .ok →
      exec (.commit x i) s = .next
        (s.accepted x r fun s => s.onWindow i fun e => { e with active := e.staging, status := .ok }))
    ∧ ((s.window i).staging.valid = true → commitCheck (s.window i).staging ≠ .ok →
      exec (.commit x i) s = .next
        (s.refused x r .commitRefused fun s =>
          s.onWindow i fun e => { e with status := commitCheck e.staging })))
  ∧ (∀ (x : UPort) (i : Fin 16) (r : Request) (s : State), s.PresentsWrite x r (.control i) 2 →
    exec (.disable x i) s = .next
      (s.accepted x r fun s => s.onWindow i fun e => { e with active := { e.active with valid := false } }))
  ∧ (∀ (x : UPort) (i : Fin 16) (v : Word) (r : Request) (s : State), s.PresentsWrite x r (.control i) v → v ≠ 1 → v ≠ 2 →
    exec (.dispatch x) s = .next (s.refused x r .denied id))

/-- MGMT_BASE_LO_WRITE (R43, R44): a value with zeros in its low 16 bits moves the aperture to the pending upper half and
itself; any other is refused.
RESERVE_WRITE (R71, R73): taken where the sum with the other reserve is at most 64, an allocation event; else refused. The
answer and the allocation event come before the write's own handing, which is deduced (log 18).
ORPHAN_LIMIT_WRITE (R105, R106): 1 to 32 is taken, and an unfenced port whose count is at least the new limit is fenced
with reason ORPHANS in the same event; 0 and above 32 are refused. -/
def Obligations.BaseReserveAndOrphanLimitWrites : Prop :=
  (∀ (x : UPort) (v : Word) (r : Request) (s : State), s.PresentsWrite x r .mgmtBaseLo v →
    (v.toNat % 65536 = 0 →
      exec (.mgmtBaseLoWrite x v) s = .next
        (s.accepted x r fun s =>
          { s with mgmtBase := BitVec.ofNat 48 (s.mgmtBaseHi.toNat * 2 ^ 32 + v.toNat) }))
    ∧ (v.toNat % 65536 ≠ 0 → exec (.mgmtBaseLoWrite x v) s = .next (s.refused x r .denied id)))
  ∧ (∀ (x p : UPort) (v : Word) (r : Request) (s : State), s.PresentsWrite x r (.up p .reserve) v →
    (s.up.get p.other).reserve ≤ 64 →
    (v.toNat + (s.up.get p.other).reserve ≤ 64 →
      exec (.reserveWrite x p v) s = .next
        (s.accepted x r fun s => (s.onUp p fun u => { u with reserve := v.toNat }).allocate))
    ∧ (64 < v.toNat + (s.up.get p.other).reserve → exec (.reserveWrite x p v) s = .next (s.refused x r .denied id)))
  ∧ (∀ (x : UPort) (n : DPort) (v : Word) (r : Request) (s : State), s.PresentsWrite x r (.down n .orphanLimit) v →
    (1 ≤ v.toNat → v.toNat ≤ 32 →
      exec (.orphanLimitWrite x n v) s = .next
        (s.accepted x r fun s =>
          if (s.down.get n).fenced = false
              ∧ v.toNat ≤ ((List.finRange 128).filter fun k =>
                  (s.entry k).state == .orphan && (s.entry k).egress == n).length then
            ((s.onDown n fun d => { d with orphanLimit := v.toNat }).fence n .orphans).allocate
          else s.onDown n fun d => { d with orphanLimit := v.toNat }))
    ∧ (v.toNat = 0 ∨ 32 < v.toNat → exec (.orphanLimitWrite x n v) s = .next (s.refused x r .denied id)))

/-- ENABLE_WRITE (R167, R169): the whole set is taken from the 25 positions that name causes, never refused, and an IDLE unit with
an enabled cause moves to QUEUED. CLEAR_WRITE (R168): the named causes leave CAUSE, the others stay. NOTICE_ACK (R172): the SEQ
of a notice that is SENT, or QUEUED to be sent again, acknowledges it; any other write is stale; both are answered OK. -/
def Obligations.NoticeUnitWrites : Prop :=
  (∀ (x : UPort) (v : Word) (r : Request) (s : State),
    (s.PresentsWrite x r .enable v →
      exec (.enableWrite x v) s = .next
        (s.accepted x r fun s => s.onNotice fun u =>
          if u.state = .idle ∧ u.cause &&& v.setWidth 25 ≠ 0 then
            { u with enable := v.setWidth 25, state := .queued, repeatMark := false }
          else { u with enable := v.setWidth 25 }))
    ∧ (s.PresentsWrite x r .clear v →
      exec (.clearWrite x v) s = .next
        (s.accepted x r fun s => s.onNotice fun u => { u with cause := u.cause &&& ~~~ v.setWidth 25 })))
  ∧ (∀ (x : UPort) (v : Word) (r : Request) (s : State), s.PresentsWrite x r .noticeAck v →
    exec (.noticeAck x v) s = .next
      (s.accepted x r fun s => s.onNotice fun u =>
        if v = u.seq ∧ (u.state = .sent ∨ u.state = .queued ∧ u.repeatMark = true) then
          { u with
            state := if u.cause &&& u.enable = 0 then .idle else .queued
            repeatMark := false
            repeatDeadline := none
            seq := u.seq + 1 }
        else u))

/-- CAPTURE_RELEASE (R161): the oldest record leaves the buffer, whatever the value written and whatever the state; the answer is
OK, nothing else of the capture unit changes, and the word reads as zero. -/
def Obligations.ReleaseRemovesTheOldestRecord : Prop :=
  ∀ (x : UPort) (v : Word) (r : Request) (s : State), s.PresentsWrite x r .release v →
    exec (.captureRelease x) s = .next
      (s.accepted x r fun s => s.onCapture fun c => { c with buffer := c.buffer.drop 1 })
    ∧ s.readReg .release = 0

/-- A COMMAND write whose code is known (R140 to R143, R184, R185), for FENCE, UNFENCE and RETRAIN of a port n: the record, the
answer and the effect in each state of the port. The allocation event of FENCE and RETRAIN comes after their other effects, and
before the write's own handing: both places are the model's deduction (logs 8, 18).
A FENCE, UNFENCE or RETRAIN whose port argument names no downstream port is refused (R143), and so is a code that names no
command (R184, R192): DENIED, and nothing but the record. -/
def Obligations.PortCommandsActOrAreDenied : Prop :=
  (∀ (x : UPort) (v : Word) (r : Request) (n : DPort) (s : State), s.PresentsWrite x r .command v →
    (v.extractLsb' 8 8).toNat = n.code →
    ((v.extractLsb' 0 8).toNat = 2 →
      exec (.fenceCommand x (v.extractLsb' 8 8)) s = .next
        (s.accepted x r fun t =>
          if (s.down.get n).fenced then t.recorded v .unchanged
          else ((t.recorded v .done).fence n .management).allocate))
    ∧ ((v.extractLsb' 0 8).toNat = 3 →
      ((s.down.get n).fenced = false →
        exec (.unfence x (v.extractLsb' 8 8)) s = .next (s.accepted x r fun t => t.recorded v .unchanged))
      ∧ ((s.down.get n).fenced = true → (s.down.get n).retrained = true →
        exec (.unfence x (v.extractLsb' 8 8)) s = .next
          (s.accepted x r fun t => (t.recorded v .done).onDown n fun d => { d with fenced := false }))
      ∧ ((s.down.get n).fenced = true → (s.down.get n).retrained = false →
        exec (.unfence x (v.extractLsb' 8 8)) s = .next
          (s.refused x r .denied fun t => t.recorded v .notRetrained)))
    ∧ ((v.extractLsb' 0 8).toNat = 4 →
      exec (.retrain x (v.extractLsb' 8 8)) s = .next
        (s.accepted x r fun t =>
          if (s.down.get n).link = .up then (((t.recorded v .done).linkDown n).emit (.reestablish n)).allocate
          else t.recorded v .unchanged)))
  ∧ (∀ (x : UPort) (v : Word) (r : Request) (s : State), s.PresentsWrite x r .command v →
    (4 ≤ (v.extractLsb' 8 8).toNat →
      ((v.extractLsb' 0 8).toNat = 2 → exec (.fenceCommand x (v.extractLsb' 8 8)) s =
        .next (s.refused x r .denied fun t => t.recorded v .badPort))
      ∧ ((v.extractLsb' 0 8).toNat = 3 → exec (.unfence x (v.extractLsb' 8 8)) s =
        .next (s.refused x r .denied fun t => t.recorded v .badPort))
      ∧ ((v.extractLsb' 0 8).toNat = 4 → exec (.retrain x (v.extractLsb' 8 8)) s =
        .next (s.refused x r .denied fun t => t.recorded v .badPort)))
    ∧ ((v.extractLsb' 0 8).toNat = 0 ∨ 9 ≤ (v.extractLsb' 0 8).toNat →
      exec (.unknownCommand x (v.extractLsb' 0 8)) s = .next (s.refused x r .denied fun t => t.recorded v .unknown)))

/-- CLEAR_COUNTERS (R186): every counter of both kinds of port, every HITS, the capture counters and the notice counters are 0
when the command itself is counted; everything else stays, the record, the runs, the credits and every setting among it.
CAPTURE_ARM, CAPTURE_STOP
and CAPTURE_CLEAR in every capture state (R162, R164, R185). -/
def Obligations.ClearCountersAndCaptureCommands : Prop :=
  (∀ (x : UPort) (v : Word) (r : Request) (s : State), s.PresentsWrite x r .command v → (v.extractLsb' 0 8).toNat = 5 →
    ∃ t : State → State, exec (.clearCounters x) s = .next (s.accepted x r t)
      ∧ ∀ s : State,
        (∀ y, (t s).up.get y = { s.up.get y with counters := UpCounters.zero })
        ∧ (∀ n, (t s).down.get n = { s.down.get n with counters := DownCounters.zero })
        ∧ (∀ i, (t s).window i = { s.window i with hits := 0 })
        ∧ (t s).capture = { s.capture with dropped := 0, overwritten := 0 }
        ∧ (t s).notice = { s.notice with sent := 0, cancelled := 0, repeats := 0 }
        ∧ (t s).command = (s.recorded v .done).command ∧ (t s).ott = s.ott ∧ (t s).time = s.time
        ∧ (t s).lastGrant = s.lastGrant ∧ (t s).outputs = s.outputs ∧ (t s).mgmtBase = s.mgmtBase
        ∧ (t s).mgmtBaseHi = s.mgmtBaseHi ∧ (t s).mgmtPermit = s.mgmtPermit ∧ (t s).settings = s.settings
        ∧ (t s).strap = s.strap ∧ (t s).held = s.held ∧ (t s).pending = s.pending ∧ (t s).choices = s.choices)
  ∧ (∀ (x : UPort) (v : Word) (r : Request) (s : State), s.PresentsWrite x r .command v →
    ((v.extractLsb' 0 8).toNat = 6 →
      exec (.captureArm x) s = .next
        (s.accepted x r fun t =>
          match s.capture.state with
          | .off => (t.recorded v .done).onCapture fun c => { c with state := .armed }
          | .frozen => (t.recorded v .done).onCapture fun c => { c with state := .armed }
          | .armed => t.recorded v .unchanged
          | .triggered => t.recorded v .unchanged))
    ∧ ((v.extractLsb' 0 8).toNat = 7 →
      exec (.captureStop x) s = .next
        (s.accepted x r fun t =>
          if s.capture.state = .off then t.recorded v .unchanged
          else (t.recorded v .done).onCapture fun c => { c with state := .off }))
    ∧ ((v.extractLsb' 0 8).toNat = 8 →
      exec (.captureClear x) s = .next
        (s.accepted x r fun t => (t.recorded v .done).onCapture fun c =>
          { c with buffer := [], nextRseq := 0, dropped := 0, overwritten := 0 })))

/-- SETTING_WRITE of the settings of the ports (R57, R96, R139, R180, R192): DEFAULT_ACTION by its code in the low byte;
RSP_TIMEOUT, DEG_ON, DEG_OFF and FENCE_LIMIT in their ranges, DEG_ON never above FENCE_LIMIT. Of the settings of the aperture
and of the notice unit (R43, R175, R180, R181, R192): the pending upper half of the base, never refused; a permission set that
is not empty; the notice address, its low word 4-aligned and not the last word of a block; the notice port; the repeat. -/
def Obligations.PortApertureAndNoticeSettings : Prop :=
  (∀ (v : Word) (s : State),
    (∀ y, s.SettingTaken (.up y .defaultAction) v (v.toNat % 256 ≤ 1) fun t =>
      t.onUp y fun u => { u with defaultAction := if v.toNat % 256 = 0 then .unmappedError else .zeroFill })
    ∧ ∀ n,
      s.SettingTaken (.down n .rspTimeout) v (v.toNat ≤ 65535) (fun t => t.onDown n fun d => { d with rspTimeout := v.toNat })
      ∧ ((s.down.get n).fenceLimit ≤ 255 →
        s.SettingTaken (.down n .degOn) v (1 ≤ v.toNat ∧ v.toNat ≤ (s.down.get n).fenceLimit)
          (fun t => t.onDown n fun d => { d with degOn := v.toNat }))
      ∧ s.SettingTaken (.down n .degOff) v (1 ≤ v.toNat ∧ v.toNat ≤ 255)
          (fun t => t.onDown n fun d => { d with degOff := v.toNat })
      ∧ (1 ≤ (s.down.get n).degOn →
        s.SettingTaken (.down n .fenceLimit) v ((s.down.get n).degOn ≤ v.toNat ∧ v.toNat ≤ 255)
          (fun t => t.onDown n fun d => { d with fenceLimit := v.toNat })))
  ∧ (∀ (v : Word) (s : State),
    (s.SettingTaken .mgmtBaseHi v True fun t => { t with mgmtBaseHi := v.setWidth 16 })
    ∧ (s.SettingTaken .mgmtPermit v (v.setWidth 2 ≠ 0#2) fun t => { t with mgmtPermit := v.setWidth 2 })
    ∧ (s.SettingTaken .noticeAddrLo v (v.toNat % 4 = 0 ∧ v.toNat % 256 ≠ 252) fun t =>
        t.onNotice fun u => { u with addr := BitVec.ofNat 48 (u.addr.toNat / 2 ^ 32 * 2 ^ 32 + v.toNat) })
    ∧ (s.SettingTaken .noticeAddrHi v True fun t =>
        t.onNotice fun u => { u with addr := BitVec.ofNat 48 (v.toNat % 65536 * 2 ^ 32 + u.addr.toNat % 2 ^ 32) })
    ∧ (s.SettingTaken .noticePort v (v.toNat % 256 ≤ 1) fun t =>
        t.onNotice fun u => { u with port := if v.toNat % 256 = 0 then .u0 else .u1 })
    ∧ (s.SettingTaken .noticeRepeat v (v.toNat ≤ 65535) fun t => t.onNotice fun u => { u with repeatMs := v.toNat }))

/-- SETTING_WRITE of the settings of the capture unit (R163, R180, R192): codes in the low byte; POST_COUNT and THRESHOLD in
their ranges; a match unit takes every value, field by field. -/
def Obligations.CaptureSettingsAreCheckedAndStored : Prop :=
  ∀ (v : Word) (s : State),
    (∀ k : Combine, v.toNat % 256 = k.code → s.SettingTaken .combine v True fun t => t.onCapture fun c => { c with combine := k })
    ∧ (3 < v.toNat % 256 → s.SettingTaken .combine v False id)
    ∧ (∀ k : Trigger, v.toNat % 256 = k.code → s.SettingTaken .trigger v True fun t => t.onCapture fun c => { c with trigger := k })
    ∧ (3 < v.toNat % 256 → s.SettingTaken .trigger v False id)
    ∧ (∀ k : CapMode, v.toNat % 256 = k.code → (s.SettingTaken .capMgmt v True fun t => t.onCapture fun c => { c with capMgmt := k })
        ∧ (s.SettingTaken .capDefault v True fun t => t.onCapture fun c => { c with capDefault := k }))
    ∧ (2 < v.toNat % 256 → s.SettingTaken .capMgmt v False id ∧ s.SettingTaken .capDefault v False id)
    ∧ (∀ k : OverflowMode, v.toNat % 256 = k.code → s.SettingTaken .mode v True fun t => t.onCapture fun c => { c with mode := k })
    ∧ (1 < v.toNat % 256 → s.SettingTaken .mode v False id)
    ∧ (s.SettingTaken .postCount v (v.toNat ≤ 255) fun t => t.onCapture fun c => { c with postCount := v.toNat })
    ∧ (s.SettingTaken .threshold v (1 ≤ v.toNat ∧ v.toNat ≤ 256) fun t => t.onCapture fun c => { c with threshold := v.toNat })
    ∧ ∀ u : MatchName,
      (s.SettingTaken (.matchUnit u .sets) v True fun t => t.onCapture fun c => c.onUnit u fun m =>
        { m with kindSet := v.extractLsb' 0 3, portSet := v.extractLsb' 4 2 })
      ∧ (s.SettingTaken (.matchUnit u .window) v True fun t => t.onCapture fun c => c.onUnit u fun m =>
        { m with windowValue := v.extractLsb' 0 5, windowCare := v.extractLsb' 8 5 })
      ∧ (s.SettingTaken (.matchUnit u .addrValueLo) v True fun t => t.onCapture fun c => c.onUnit u fun m =>
        { m with addrValue := BitVec.ofNat 48 (m.addrValue.toNat / 2 ^ 32 * 2 ^ 32 + v.toNat) })
      ∧ (s.SettingTaken (.matchUnit u .addrValueHi) v True fun t => t.onCapture fun c => c.onUnit u fun m =>
        { m with addrValue := BitVec.ofNat 48 (v.toNat % 65536 * 2 ^ 32 + m.addrValue.toNat % 2 ^ 32) })
      ∧ (s.SettingTaken (.matchUnit u .addrCareLo) v True fun t => t.onCapture fun c => c.onUnit u fun m =>
        { m with addrCare := BitVec.ofNat 48 (m.addrCare.toNat / 2 ^ 32 * 2 ^ 32 + v.toNat) })
      ∧ (s.SettingTaken (.matchUnit u .addrCareHi) v True fun t => t.onCapture fun c => c.onUnit u fun m =>
        { m with addrCare := BitVec.ofNat 48 (v.toNat % 65536 * 2 ^ 32 + m.addrCare.toNat % 2 ^ 32) })

/-- SETTING_WRITE of the staging words of a window (R31, R192): each word stores its part of the record as written; the
configuration word is refused where its target kind or its capture mode is no code. The active entry stays. -/
def Obligations.StagingWordsAreStoredAsWritten : Prop :=
  ∀ (i : Fin 16) (v : Word) (s : State),
    (s.SettingTaken (.staging i .baseLo) v True fun t => t.onWindow i fun e =>
      { e with staging := { e.staging with base := BitVec.ofNat 48 (e.staging.base.toNat / 2 ^ 32 * 2 ^ 32 + v.toNat) } })
    ∧ (s.SettingTaken (.staging i .baseHi) v True fun t => t.onWindow i fun e =>
      { e with staging := { e.staging with base := BitVec.ofNat 48 (v.toNat % 65536 * 2 ^ 32 + e.staging.base.toNat % 2 ^ 32) } })
    ∧ (s.SettingTaken (.staging i .maskLo) v True fun t => t.onWindow i fun e =>
      { e with staging := { e.staging with mask := BitVec.ofNat 48 (e.staging.mask.toNat / 2 ^ 32 * 2 ^ 32 + v.toNat) } })
    ∧ (s.SettingTaken (.staging i .maskHi) v True fun t => t.onWindow i fun e =>
      { e with staging := { e.staging with mask := BitVec.ofNat 48 (v.toNat % 65536 * 2 ^ 32 + e.staging.mask.toNat % 2 ^ 32) } })
    ∧ (s.SettingTaken (.staging i .xbaseLo) v True fun t => t.onWindow i fun e =>
      { e with staging := { e.staging with xbase := BitVec.ofNat 48 (e.staging.xbase.toNat / 2 ^ 32 * 2 ^ 32 + v.toNat) } })
    ∧ (s.SettingTaken (.staging i .xbaseHi) v True fun t => t.onWindow i fun e =>
      { e with staging := { e.staging with xbase := BitVec.ofNat 48 (v.toNat % 65536 * 2 ^ 32 + e.staging.xbase.toNat % 2 ^ 32) } })
    ∧ (∀ (kind : TargetKind) (mode : CapMode),
      (v.extractLsb' 4 2).toNat = kind.code → (v.extractLsb' 28 2).toNat = mode.code →
      s.SettingTaken (.staging i .config) v True fun t => t.onWindow i fun e =>
        { e with staging :=
          { e.staging with
            valid := v.getLsbD 0
            sources := v.extractLsb' 1 2
            targetKind := kind
            portNumber := v.extractLsb' 6 3
            spreadSet := v.extractLsb' 12 4
            select := v.extractLsb' 16 6
            permit := v.extractLsb' 24 3
            capture := mode } })
    ∧ ((v.extractLsb' 4 2).toNat = 3 ∨ (v.extractLsb' 28 2).toNat = 3 → s.SettingTaken (.staging i .config) v False id)

/-- SOFT_RESET (R68, R91, R135, R165, R177, R187, R188): the record, the answers of every request in the bridge in return queues
with room, the credits, the forced link-downs and cleared fences, the soft-reset values of every block, the one MGMT_DONE
counted after them, and everything that is kept. The order of the parts in the return queues rests on there being no allocation
event between the forced link-downs, which is the model's deduction (log 8): a head that waits is answered at the link-down of its
port or from the ingress queue, and takes no entry that an earlier link-down released. -/
def Obligations.SoftResetLeavesTheSoftValues : Prop :=
  ∀ (x : UPort) (v : Word) (r : Request) (s : State), s.PresentsWrite x r .command v → (v.extractLsb' 0 8).toNat = 1 →
    (∀ y, (s.up.get y).returnQueue.length + (s.softResetParts x r y).length ≤ 576) →
    ∃ t, exec (.softReset x) s = .next t
      ∧ (∀ y, t.up.get y =
          { s.up.get y with
            ingress := []
            waiting := none
            returnQueue := (s.up.get y).returnQueue ++ s.softResetParts x r y
            pendingCredits := satAdd (s.up.get y).pendingCredits (s.up.get y).ingress.length
            counters := if y = x then { UpCounters.zero with mgmtDone := 1 } else UpCounters.zero })
      ∧ (∀ n, t.down.get n =
          if (s.down.get n).link = .up then
            { s.down.get n with
              link := .down, fenced := false, reason := .none, retrained := false, degraded := false, badRun := 0, goodRun := 0
              credits := 0, egress := [], admission := .u1, counters := DownCounters.zero }
          else
            { s.down.get n with
              fenced := false, reason := .none, retrained := false, admission := .u1, counters := DownCounters.zero })
      ∧ (∀ i, t.window i = WindowEntry.zero) ∧ (∀ k, t.entry k = OttEntry.zero) ∧ t.lastGrant = .u1
      ∧ t.capture =
          { s.capture with state := .off, buffer := [], nextRseq := 0, postRemain := 0, dropped := 0, overwritten := 0 }
      ∧ t.notice =
          { s.notice with
            cause := 0, state := .idle, repeatMark := false, repeatDeadline := none, seq := 0, sent := 0, cancelled := 0
            repeats := 0 }
      ∧ t.time = 0 ∧ t.command = (s.recorded v .done).command ∧ t.mgmtBase = s.mgmtBase ∧ t.mgmtBaseHi = s.mgmtBaseHi
      ∧ t.mgmtPermit = s.mgmtPermit ∧ t.strap = s.strap ∧ t.held = false
      ∧ t.outputs =
          ((DPort.all.filter fun n => (s.down.get n).link == .up).map Output.reestablish).reverse ++ s.outputs
      ∧ t.pending = s.pending

/-! ### The whole machine -/

/-- The layout of messages keeps every field (R191): the bytes of a message that the structural checks of R18 pass are read back
as that message; and what delivered bytes are read as is usable, is read back from bytes of its own, and has as many bytes. -/
def Obligations.MessageBytesAgree : Prop :=
  (∀ m : Message, m.usable = true → Message.ofBytes m.toBytes = some m)
  ∧ (∀ (bytes : List Byte) (m : Message), Message.ofBytes bytes = some m →
    m.usable = true ∧ Message.ofBytes m.toBytes = some m
      ∧ m.toBytes.length = (match m with
        | .request _ => bytes.length
        | .rsp _ => bytes.length
        | .cr _ => 4))

/-- Every register of the management address map stands at one offset: no two offsets of the aperture are assigned to one
register, every assigned offset is 4-aligned and below 0x2800, and every register has an offset (R178, R194). -/
def Obligations.RegisterMapIsOneToOne : Prop :=
  (∀ a b : Nat, ∀ reg, regAt a = some reg → regAt b = some reg → a = b)
    ∧ (∀ a reg, regAt a = some reg → a % 4 = 0 ∧ a < 0x2800)
    ∧ ∀ reg : Reg, ∃ a, regAt a = some reg

/-- Every step keeps the egress queues and the table in agreement (R76): each PENDING entry has exactly one item, in the queue
of its EGRESS, and no other entry has one. -/
def Obligations.StepsKeepOneItemPerPendingEntry : Prop := ∀ s t : State, step s = .next t → s.ItemsMatch → t.ItemsMatch

/-- Every step keeps source tags unique among the live entries of a port (R49), from a state whose egress items match its PENDING
entries (R76, an invariant of its own: StepsKeepOneItemPerPendingEntry). -/
def Obligations.StepsKeepLiveTagsUnique : Prop :=
  ∀ s t : State, step s = .next t → s.ItemsMatch → s.TagsUnique → t.TagsUnique

/-- Every step keeps the table and the ports in agreement (R54, R66, R87 to R90, R106, R119), from a state whose egress items
match its PENDING entries (R76, an invariant of its own: StepsKeepOneItemPerPendingEntry): in particular a port out of service
has no live entry and no item, a DOWN port has only FREE entries, and an unfenced port has fewer orphans than its limit. -/
def Obligations.StepsKeepTableAndPortsConsistent : Prop :=
  ∀ s t : State, step s = .next t → s.ItemsMatch → s.TableConsistent → t.TableConsistent

/-- Every step keeps each unit legal: every active window entry with VALID set satisfies all commit checks (R34), and every other
setting is in its range (R71, R96, R105, R139, R163, R175, R181); every queue is within its capacity (R45, R112, R127, R157) and
every credit count within 0 to 64 with none on a DOWN port (R15, R16, R116); no enabled cause is left behind in IDLE (R169); the
records of the buffer are numbered consecutively (R157). -/
def Obligations.StepsKeepEachUnitLegal : Prop :=
  (∀ s t : State, step s = .next t →
    (s.WindowsChecked → t.WindowsChecked) ∧ (s.SettingsInRange → t.SettingsInRange))
  ∧ (∀ s t : State, step s = .next t →
    (s.QueuesBounded → t.QueuesBounded) ∧ (s.CreditsInRange → t.CreditsInRange))
  ∧ (∀ s t : State, step s = .next t →
    (s.NoticeConsistent → t.NoticeConsistent) ∧ (s.CaptureConsistent → t.CaptureConsistent))

/-- TIME passes no deadline (R96 to R98, R171, R173, R175): every step keeps the deadlines of live entries at 1 to 65535
microseconds after the forwarding and not before TIME, and the repeat deadline of a SENT notice not before TIME; and while the
expiry of an entry or the repeat of the notice is due, a step that changes TIME has removed that deadline. The wait of
TIME_ADVANCE for the event is the model's way of taking each at its moment (deduced, log 17). -/
def Obligations.StepsPassNoDeadline : Prop :=
  (∀ s t : State, step s = .next t → s.DeadlinesAhead → t.DeadlinesAhead)
  ∧ (∀ s t : State, step s = .next t → s.DeadlinesAhead → t.time ≠ s.time →
    (∀ k, (s.entry k).deadline = some s.time → (t.entry k).deadline = none)
    ∧ (s.notice.repeatDeadline = some s.time → t.notice.repeatDeadline = none))

/-- The power-on state meets every invariant, for every MSEL. -/
def Obligations.PowerOnMeetsTheInvariants : Prop :=
  ∀ msel, (State.powerOn msel).WindowsChecked ∧ (State.powerOn msel).SettingsInRange ∧ (State.powerOn msel).QueuesBounded
    ∧ (State.powerOn msel).CreditsInRange ∧ (State.powerOn msel).ItemsMatch ∧ (State.powerOn msel).TagsUnique
    ∧ (State.powerOn msel).TableConsistent ∧ (State.powerOn msel).NoticeConsistent ∧ (State.powerOn msel).CaptureConsistent
    ∧ (State.powerOn msel).DeadlinesAhead
    ∧ State.reset = State.powerOn 0

/-- Settings change only through the management aperture (R51, R178, R181): a command that changes a setting is a reset by
RESET_N, or DISPATCH or a management row of a port that holds management permission and whose own undecoded head is a WR or PW
that hits the aperture. In particular no arrival, link event, forwarding, transmission, expiry or TIME_ADVANCE changes one, nor a
dispatch of a port without permission, whatever stands at the head of the other port. -/
def Obligations.SettingsChangeOnlyByPermittedWrites : Prop :=
  ∀ (c : Instr) (s t : State), exec c s = .next t → t.settings ≠ s.settings →
    (∃ msel, c = .powerOnReset msel) ∨ c = .resetNAsserted
      ∨ ∃ x r, dispatchedPort c = some x ∧ s.permitted x = true ∧ s.undecodedHead x = some r ∧ r.kind ≠ .rd
        ∧ s.hitsAperture r.addr = true

/-- A downstream port's fence is cleared only if the port has been DOWN since the fence was set (R134, R135): where a command
leaves a fenced port unfenced, RETRAINED was set, or the port is DOWN after the command, as it is after a soft reset and a
power-on reset. And RETRAINED says that: a command that sets it on a fenced port, or that fences a port and leaves it set, leaves
that port DOWN. -/
def Obligations.FenceIsClearedOnlyAfterDown : Prop :=
  ∀ (c : Instr) (n : DPort) (s t : State), exec c s = .next t →
    ((s.down.get n).fenced = true → (t.down.get n).fenced = false →
      (s.down.get n).retrained = true ∨ (t.down.get n).link = .down)
    ∧ ((t.down.get n).fenced = true → (t.down.get n).retrained = true →
      (s.down.get n).fenced = true ∧ (s.down.get n).retrained = true ∨ (t.down.get n).link = .down)

/-- What a command hands to the physical layers is added before what was handed earlier (log 13), and a message on Dn is among it
only for ISSUE of Dn, alone, only while Dn is UP and not fenced, and only for a credit (R112, R115, R116): any other command
hands no message to a downstream transmitter, also where the same message was sent before. -/
def Obligations.RequestsGoOutOnlyForCreditsInService : Prop :=
  ∀ (c : Instr) (s t : State), exec c s = .next t →
    ∃ added, t.outputs = added ++ s.outputs ∧ ∀ (n : DPort) (m : Message), Output.message (.down n) m ∈ added →
      c = .issue n ∧ added = [Output.message (.down n) m]
        ∧ (s.down.get n).link = .up ∧ (s.down.get n).fenced = false ∧ 1 ≤ (s.down.get n).credits
        ∧ (t.down.get n).credits = (s.down.get n).credits - 1
end

