-- ==== Sys2Proof/Laws/State.lean ====
section
/-! SUPPORT. The small lemmas of the state: access to ports, entries and windows, and one lemma per field per update. -/

namespace Sys2Proof

@[simp] theorem UPort.other_other (x : UPort) : x.other.other = x := by cases x <;> rfl

@[simp] theorem UPort.other_ne (x : UPort) : x.other ≠ x := by cases x <;> decide

@[simp] theorem UPort.ne_other (x : UPort) : x ≠ x.other := by cases x <;> decide

theorem UPort.eq_or_other (x y : UPort) : y = x ∨ y = x.other := by cases x <;> cases y <;> decide

namespace Machine

theorem PerUp.get_modify {α : Type} (p : PerUp α) (x y : UPort) (f : α → α) :
    (p.modify x f).get y = if y = x then f (p.get y) else p.get y := by
  cases x <;> cases y <;> rfl

@[simp] theorem PerUp.get_modify_self {α : Type} (p : PerUp α) (x : UPort) (f : α → α) :
    (p.modify x f).get x = f (p.get x) := by
  cases x <;> rfl

@[simp] theorem PerUp.get_modify_other {α : Type} (p : PerUp α) (x : UPort) (f : α → α) :
    (p.modify x f).get x.other = p.get x.other := by
  cases x <;> rfl

theorem PerUp.get_modify_ne {α : Type} (p : PerUp α) {x y : UPort} (f : α → α) (h : y ≠ x) :
    (p.modify x f).get y = p.get y := by
  rw [PerUp.get_modify, if_neg h]

@[simp] theorem PerUp.get_map {α β : Type} (p : PerUp α) (x : UPort) (f : α → β) : (p.map f).get x = f (p.get x) := by
  cases x <;> rfl

theorem PerUp.ext_get {α : Type} {p q : PerUp α} (h : ∀ x, p.get x = q.get x) : p = q := by
  cases p; cases q; have h0 := h .u0; have h1 := h .u1; simp only [PerUp.get] at h0 h1; rw [h0, h1]

theorem PerDown.get_modify {α : Type} (p : PerDown α) (n k : DPort) (f : α → α) :
    (p.modify n f).get k = if k = n then f (p.get k) else p.get k := by
  cases n <;> cases k <;> rfl

@[simp] theorem PerDown.get_modify_self {α : Type} (p : PerDown α) (n : DPort) (f : α → α) :
    (p.modify n f).get n = f (p.get n) := by
  cases n <;> rfl

theorem PerDown.get_modify_ne {α : Type} (p : PerDown α) {n k : DPort} (f : α → α) (h : k ≠ n) :
    (p.modify n f).get k = p.get k := by
  rw [PerDown.get_modify, if_neg h]

@[simp] theorem PerDown.get_map {α β : Type} (p : PerDown α) (n : DPort) (f : α → β) : (p.map f).get n = f (p.get n) := by
  cases n <;> rfl

theorem PerDown.ext_get {α : Type} {p q : PerDown α} (h : ∀ n, p.get n = q.get n) : p = q := by
  cases p; cases q
  have h0 := h .d0; have h1 := h .d1; have h2 := h .d2; have h3 := h .d3
  simp only [PerDown.get] at h0 h1 h2 h3
  rw [h0, h1, h2, h3]

/-- An entry after an entry is changed. -/
theorem State.entry_onEntry (s : State) (t u : Fin 128) (f : OttEntry → OttEntry) :
    (s.onEntry t f).entry u = if u = t then f (s.entry t) else s.entry u := by
  by_cases h : u = t
  · subst h; simp [State.onEntry, State.entry]
  · have h' : t.val ≠ u.val := fun e => h (Fin.ext e.symm)
    simp [State.onEntry, State.entry, Vector.getElem_set_ne, h, h']

@[simp] theorem State.entry_onEntry_self (s : State) (t : Fin 128) (f : OttEntry → OttEntry) :
    (s.onEntry t f).entry t = f (s.entry t) := by
  rw [State.entry_onEntry, if_pos rfl]

theorem State.entry_onEntry_ne (s : State) {t u : Fin 128} (f : OttEntry → OttEntry) (h : u ≠ t) :
    (s.onEntry t f).entry u = s.entry u := by
  rw [State.entry_onEntry, if_neg h]

/-- A window after a window is changed. -/
theorem State.window_onWindow (s : State) (i j : Fin 16) (f : WindowEntry → WindowEntry) :
    (s.onWindow i f).window j = if j = i then f (s.window i) else s.window j := by
  by_cases h : j = i
  · subst h; simp [State.onWindow, State.window]
  · have h' : i.val ≠ j.val := fun e => h (Fin.ext e.symm)
    simp [State.onWindow, State.window, Vector.getElem_set_ne, h, h']

@[simp] theorem State.window_onWindow_self (s : State) (i : Fin 16) (f : WindowEntry → WindowEntry) :
    (s.onWindow i f).window i = f (s.window i) := by
  rw [State.window_onWindow, if_pos rfl]

theorem State.countUp_eq (s : State) (x : UPort) (f : UpCounters → UpCounters) :
    s.countUp x f = s.onUp x fun u => { u with counters := f u.counters } := rfl

theorem State.countDown_eq (s : State) (n : DPort) (f : DownCounters → DownCounters) :
    s.countDown n f = s.onDown n fun d => { d with counters := f d.counters } := rfl

/-! ### One lemma per field per update -/

@[simp] theorem State.onUp_held (s : State) (x : UPort) (f : Upstream → Upstream) : (s.onUp x f).held = s.held := rfl
@[simp] theorem State.onUp_time (s : State) (x : UPort) (f : Upstream → Upstream) : (s.onUp x f).time = s.time := rfl
@[simp] theorem State.onUp_strap (s : State) (x : UPort) (f : Upstream → Upstream) : (s.onUp x f).strap = s.strap := rfl
@[simp] theorem State.onUp_mgmtBase (s : State) (x : UPort) (f : Upstream → Upstream) : (s.onUp x f).mgmtBase = s.mgmtBase := rfl
@[simp] theorem State.onUp_mgmtBaseHi (s : State) (x : UPort) (f : Upstream → Upstream) : (s.onUp x f).mgmtBaseHi = s.mgmtBaseHi := rfl
@[simp] theorem State.onUp_mgmtPermit (s : State) (x : UPort) (f : Upstream → Upstream) : (s.onUp x f).mgmtPermit = s.mgmtPermit := rfl
@[simp] theorem State.onUp_command (s : State) (x : UPort) (f : Upstream → Upstream) : (s.onUp x f).command = s.command := rfl
@[simp] theorem State.onUp_up (s : State) (x : UPort) (f : Upstream → Upstream) : (s.onUp x f).up = s.up.modify x f := rfl
@[simp] theorem State.onUp_down (s : State) (x : UPort) (f : Upstream → Upstream) : (s.onUp x f).down = s.down := rfl
@[simp] theorem State.onUp_windows (s : State) (x : UPort) (f : Upstream → Upstream) : (s.onUp x f).windows = s.windows := rfl
@[simp] theorem State.onUp_ott (s : State) (x : UPort) (f : Upstream → Upstream) : (s.onUp x f).ott = s.ott := rfl
@[simp] theorem State.onUp_lastGrant (s : State) (x : UPort) (f : Upstream → Upstream) : (s.onUp x f).lastGrant = s.lastGrant := rfl
@[simp] theorem State.onUp_capture (s : State) (x : UPort) (f : Upstream → Upstream) : (s.onUp x f).capture = s.capture := rfl
@[simp] theorem State.onUp_notice (s : State) (x : UPort) (f : Upstream → Upstream) : (s.onUp x f).notice = s.notice := rfl
@[simp] theorem State.onUp_choices (s : State) (x : UPort) (f : Upstream → Upstream) : (s.onUp x f).choices = s.choices := rfl
@[simp] theorem State.onUp_outputs (s : State) (x : UPort) (f : Upstream → Upstream) : (s.onUp x f).outputs = s.outputs := rfl
@[simp] theorem State.onUp_pending (s : State) (x : UPort) (f : Upstream → Upstream) : (s.onUp x f).pending = s.pending := rfl

@[simp] theorem State.onDown_held (s : State) (n : DPort) (f : Downstream → Downstream) : (s.onDown n f).held = s.held := rfl
@[simp] theorem State.onDown_time (s : State) (n : DPort) (f : Downstream → Downstream) : (s.onDown n f).time = s.time := rfl
@[simp] theorem State.onDown_strap (s : State) (n : DPort) (f : Downstream → Downstream) : (s.onDown n f).strap = s.strap := rfl
@[simp] theorem State.onDown_mgmtBase (s : State) (n : DPort) (f : Downstream → Downstream) : (s.onDown n f).mgmtBase = s.mgmtBase := rfl
@[simp] theorem State.onDown_mgmtBaseHi (s : State) (n : DPort) (f : Downstream → Downstream) : (s.onDown n f).mgmtBaseHi = s.mgmtBaseHi := rfl
@[simp] theorem State.onDown_mgmtPermit (s : State) (n : DPort) (f : Downstream → Downstream) : (s.onDown n f).mgmtPermit = s.mgmtPermit := rfl
@[simp] theorem State.onDown_command (s : State) (n : DPort) (f : Downstream → Downstream) : (s.onDown n f).command = s.command := rfl
@[simp] theorem State.onDown_up (s : State) (n : DPort) (f : Downstream → Downstream) : (s.onDown n f).up = s.up := rfl
@[simp] theorem State.onDown_down (s : State) (n : DPort) (f : Downstream → Downstream) : (s.onDown n f).down = s.down.modify n f := rfl
@[simp] theorem State.onDown_windows (s : State) (n : DPort) (f : Downstream → Downstream) : (s.onDown n f).windows = s.windows := rfl
@[simp] theorem State.onDown_ott (s : State) (n : DPort) (f : Downstream → Downstream) : (s.onDown n f).ott = s.ott := rfl
@[simp] theorem State.onDown_lastGrant (s : State) (n : DPort) (f : Downstream → Downstream) : (s.onDown n f).lastGrant = s.lastGrant := rfl
@[simp] theorem State.onDown_capture (s : State) (n : DPort) (f : Downstream → Downstream) : (s.onDown n f).capture = s.capture := rfl
@[simp] theorem State.onDown_notice (s : State) (n : DPort) (f : Downstream → Downstream) : (s.onDown n f).notice = s.notice := rfl
@[simp] theorem State.onDown_choices (s : State) (n : DPort) (f : Downstream → Downstream) : (s.onDown n f).choices = s.choices := rfl
@[simp] theorem State.onDown_outputs (s : State) (n : DPort) (f : Downstream → Downstream) : (s.onDown n f).outputs = s.outputs := rfl
@[simp] theorem State.onDown_pending (s : State) (n : DPort) (f : Downstream → Downstream) : (s.onDown n f).pending = s.pending := rfl

@[simp] theorem State.onEntry_held (s : State) (t : Fin 128) (f : OttEntry → OttEntry) : (s.onEntry t f).held = s.held := rfl
@[simp] theorem State.onEntry_time (s : State) (t : Fin 128) (f : OttEntry → OttEntry) : (s.onEntry t f).time = s.time := rfl
@[simp] theorem State.onEntry_strap (s : State) (t : Fin 128) (f : OttEntry → OttEntry) : (s.onEntry t f).strap = s.strap := rfl
@[simp] theorem State.onEntry_mgmtBase (s : State) (t : Fin 128) (f : OttEntry → OttEntry) : (s.onEntry t f).mgmtBase = s.mgmtBase := rfl
@[simp] theorem State.onEntry_mgmtBaseHi (s : State) (t : Fin 128) (f : OttEntry → OttEntry) : (s.onEntry t f).mgmtBaseHi = s.mgmtBaseHi := rfl
@[simp] theorem State.onEntry_mgmtPermit (s : State) (t : Fin 128) (f : OttEntry → OttEntry) : (s.onEntry t f).mgmtPermit = s.mgmtPermit := rfl
@[simp] theorem State.onEntry_command (s : State) (t : Fin 128) (f : OttEntry → OttEntry) : (s.onEntry t f).command = s.command := rfl
@[simp] theorem State.onEntry_up (s : State) (t : Fin 128) (f : OttEntry → OttEntry) : (s.onEntry t f).up = s.up := rfl
@[simp] theorem State.onEntry_down (s : State) (t : Fin 128) (f : OttEntry → OttEntry) : (s.onEntry t f).down = s.down := rfl
@[simp] theorem State.onEntry_windows (s : State) (t : Fin 128) (f : OttEntry → OttEntry) : (s.onEntry t f).windows = s.windows := rfl
@[simp] theorem State.onEntry_ott (s : State) (t : Fin 128) (f : OttEntry → OttEntry) : (s.onEntry t f).ott = s.ott.set t.val (f (s.entry t)) := rfl
@[simp] theorem State.onEntry_lastGrant (s : State) (t : Fin 128) (f : OttEntry → OttEntry) : (s.onEntry t f).lastGrant = s.lastGrant := rfl
@[simp] theorem State.onEntry_capture (s : State) (t : Fin 128) (f : OttEntry → OttEntry) : (s.onEntry t f).capture = s.capture := rfl
@[simp] theorem State.onEntry_notice (s : State) (t : Fin 128) (f : OttEntry → OttEntry) : (s.onEntry t f).notice = s.notice := rfl
@[simp] theorem State.onEntry_choices (s : State) (t : Fin 128) (f : OttEntry → OttEntry) : (s.onEntry t f).choices = s.choices := rfl
@[simp] theorem State.onEntry_outputs (s : State) (t : Fin 128) (f : OttEntry → OttEntry) : (s.onEntry t f).outputs = s.outputs := rfl
@[simp] theorem State.onEntry_pending (s : State) (t : Fin 128) (f : OttEntry → OttEntry) : (s.onEntry t f).pending = s.pending := rfl

@[simp] theorem State.onWindow_held (s : State) (i : Fin 16) (f : WindowEntry → WindowEntry) : (s.onWindow i f).held = s.held := rfl
@[simp] theorem State.onWindow_time (s : State) (i : Fin 16) (f : WindowEntry → WindowEntry) : (s.onWindow i f).time = s.time := rfl
@[simp] theorem State.onWindow_strap (s : State) (i : Fin 16) (f : WindowEntry → WindowEntry) : (s.onWindow i f).strap = s.strap := rfl
@[simp] theorem State.onWindow_mgmtBase (s : State) (i : Fin 16) (f : WindowEntry → WindowEntry) : (s.onWindow i f).mgmtBase = s.mgmtBase := rfl
@[simp] theorem State.onWindow_mgmtBaseHi (s : State) (i : Fin 16) (f : WindowEntry → WindowEntry) : (s.onWindow i f).mgmtBaseHi = s.mgmtBaseHi := rfl
@[simp] theorem State.onWindow_mgmtPermit (s : State) (i : Fin 16) (f : WindowEntry → WindowEntry) : (s.onWindow i f).mgmtPermit = s.mgmtPermit := rfl
@[simp] theorem State.onWindow_command (s : State) (i : Fin 16) (f : WindowEntry → WindowEntry) : (s.onWindow i f).command = s.command := rfl
@[simp] theorem State.onWindow_up (s : State) (i : Fin 16) (f : WindowEntry → WindowEntry) : (s.onWindow i f).up = s.up := rfl
@[simp] theorem State.onWindow_down (s : State) (i : Fin 16) (f : WindowEntry → WindowEntry) : (s.onWindow i f).down = s.down := rfl
@[simp] theorem State.onWindow_windows (s : State) (i : Fin 16) (f : WindowEntry → WindowEntry) : (s.onWindow i f).windows = s.windows.set i.val (f (s.window i)) := rfl
@[simp] theorem State.onWindow_ott (s : State) (i : Fin 16) (f : WindowEntry → WindowEntry) : (s.onWindow i f).ott = s.ott := rfl
@[simp] theorem State.onWindow_lastGrant (s : State) (i : Fin 16) (f : WindowEntry → WindowEntry) : (s.onWindow i f).lastGrant = s.lastGrant := rfl
@[simp] theorem State.onWindow_capture (s : State) (i : Fin 16) (f : WindowEntry → WindowEntry) : (s.onWindow i f).capture = s.capture := rfl
@[simp] theorem State.onWindow_notice (s : State) (i : Fin 16) (f : WindowEntry → WindowEntry) : (s.onWindow i f).notice = s.notice := rfl
@[simp] theorem State.onWindow_choices (s : State) (i : Fin 16) (f : WindowEntry → WindowEntry) : (s.onWindow i f).choices = s.choices := rfl
@[simp] theorem State.onWindow_outputs (s : State) (i : Fin 16) (f : WindowEntry → WindowEntry) : (s.onWindow i f).outputs = s.outputs := rfl
@[simp] theorem State.onWindow_pending (s : State) (i : Fin 16) (f : WindowEntry → WindowEntry) : (s.onWindow i f).pending = s.pending := rfl

@[simp] theorem State.onCapture_held (s : State) (f : Capture → Capture) : (s.onCapture f).held = s.held := rfl
@[simp] theorem State.onCapture_time (s : State) (f : Capture → Capture) : (s.onCapture f).time = s.time := rfl
@[simp] theorem State.onCapture_strap (s : State) (f : Capture → Capture) : (s.onCapture f).strap = s.strap := rfl
@[simp] theorem State.onCapture_mgmtBase (s : State) (f : Capture → Capture) : (s.onCapture f).mgmtBase = s.mgmtBase := rfl
@[simp] theorem State.onCapture_mgmtBaseHi (s : State) (f : Capture → Capture) : (s.onCapture f).mgmtBaseHi = s.mgmtBaseHi := rfl
@[simp] theorem State.onCapture_mgmtPermit (s : State) (f : Capture → Capture) : (s.onCapture f).mgmtPermit = s.mgmtPermit := rfl
@[simp] theorem State.onCapture_command (s : State) (f : Capture → Capture) : (s.onCapture f).command = s.command := rfl
@[simp] theorem State.onCapture_up (s : State) (f : Capture → Capture) : (s.onCapture f).up = s.up := rfl
@[simp] theorem State.onCapture_down (s : State) (f : Capture → Capture) : (s.onCapture f).down = s.down := rfl
@[simp] theorem State.onCapture_windows (s : State) (f : Capture → Capture) : (s.onCapture f).windows = s.windows := rfl
@[simp] theorem State.onCapture_ott (s : State) (f : Capture → Capture) : (s.onCapture f).ott = s.ott := rfl
@[simp] theorem State.onCapture_lastGrant (s : State) (f : Capture → Capture) : (s.onCapture f).lastGrant = s.lastGrant := rfl
@[simp] theorem State.onCapture_capture (s : State) (f : Capture → Capture) : (s.onCapture f).capture = f s.capture := rfl
@[simp] theorem State.onCapture_notice (s : State) (f : Capture → Capture) : (s.onCapture f).notice = s.notice := rfl
@[simp] theorem State.onCapture_choices (s : State) (f : Capture → Capture) : (s.onCapture f).choices = s.choices := rfl
@[simp] theorem State.onCapture_outputs (s : State) (f : Capture → Capture) : (s.onCapture f).outputs = s.outputs := rfl
@[simp] theorem State.onCapture_pending (s : State) (f : Capture → Capture) : (s.onCapture f).pending = s.pending := rfl

@[simp] theorem State.onNotice_held (s : State) (f : NoticeUnit → NoticeUnit) : (s.onNotice f).held = s.held := rfl
@[simp] theorem State.onNotice_time (s : State) (f : NoticeUnit → NoticeUnit) : (s.onNotice f).time = s.time := rfl
@[simp] theorem State.onNotice_strap (s : State) (f : NoticeUnit → NoticeUnit) : (s.onNotice f).strap = s.strap := rfl
@[simp] theorem State.onNotice_mgmtBase (s : State) (f : NoticeUnit → NoticeUnit) : (s.onNotice f).mgmtBase = s.mgmtBase := rfl
@[simp] theorem State.onNotice_mgmtBaseHi (s : State) (f : NoticeUnit → NoticeUnit) : (s.onNotice f).mgmtBaseHi = s.mgmtBaseHi := rfl
@[simp] theorem State.onNotice_mgmtPermit (s : State) (f : NoticeUnit → NoticeUnit) : (s.onNotice f).mgmtPermit = s.mgmtPermit := rfl
@[simp] theorem State.onNotice_command (s : State) (f : NoticeUnit → NoticeUnit) : (s.onNotice f).command = s.command := rfl
@[simp] theorem State.onNotice_up (s : State) (f : NoticeUnit → NoticeUnit) : (s.onNotice f).up = s.up := rfl
@[simp] theorem State.onNotice_down (s : State) (f : NoticeUnit → NoticeUnit) : (s.onNotice f).down = s.down := rfl
@[simp] theorem State.onNotice_windows (s : State) (f : NoticeUnit → NoticeUnit) : (s.onNotice f).windows = s.windows := rfl
@[simp] theorem State.onNotice_ott (s : State) (f : NoticeUnit → NoticeUnit) : (s.onNotice f).ott = s.ott := rfl
@[simp] theorem State.onNotice_lastGrant (s : State) (f : NoticeUnit → NoticeUnit) : (s.onNotice f).lastGrant = s.lastGrant := rfl
@[simp] theorem State.onNotice_capture (s : State) (f : NoticeUnit → NoticeUnit) : (s.onNotice f).capture = s.capture := rfl
@[simp] theorem State.onNotice_notice (s : State) (f : NoticeUnit → NoticeUnit) : (s.onNotice f).notice = f s.notice := rfl
@[simp] theorem State.onNotice_choices (s : State) (f : NoticeUnit → NoticeUnit) : (s.onNotice f).choices = s.choices := rfl
@[simp] theorem State.onNotice_outputs (s : State) (f : NoticeUnit → NoticeUnit) : (s.onNotice f).outputs = s.outputs := rfl
@[simp] theorem State.onNotice_pending (s : State) (f : NoticeUnit → NoticeUnit) : (s.onNotice f).pending = s.pending := rfl

@[simp] theorem State.emit_held (s : State) (o : Output) : (s.emit o).held = s.held := rfl
@[simp] theorem State.emit_time (s : State) (o : Output) : (s.emit o).time = s.time := rfl
@[simp] theorem State.emit_strap (s : State) (o : Output) : (s.emit o).strap = s.strap := rfl
@[simp] theorem State.emit_mgmtBase (s : State) (o : Output) : (s.emit o).mgmtBase = s.mgmtBase := rfl
@[simp] theorem State.emit_mgmtBaseHi (s : State) (o : Output) : (s.emit o).mgmtBaseHi = s.mgmtBaseHi := rfl
@[simp] theorem State.emit_mgmtPermit (s : State) (o : Output) : (s.emit o).mgmtPermit = s.mgmtPermit := rfl
@[simp] theorem State.emit_command (s : State) (o : Output) : (s.emit o).command = s.command := rfl
@[simp] theorem State.emit_up (s : State) (o : Output) : (s.emit o).up = s.up := rfl
@[simp] theorem State.emit_down (s : State) (o : Output) : (s.emit o).down = s.down := rfl
@[simp] theorem State.emit_windows (s : State) (o : Output) : (s.emit o).windows = s.windows := rfl
@[simp] theorem State.emit_ott (s : State) (o : Output) : (s.emit o).ott = s.ott := rfl
@[simp] theorem State.emit_lastGrant (s : State) (o : Output) : (s.emit o).lastGrant = s.lastGrant := rfl
@[simp] theorem State.emit_capture (s : State) (o : Output) : (s.emit o).capture = s.capture := rfl
@[simp] theorem State.emit_notice (s : State) (o : Output) : (s.emit o).notice = s.notice := rfl
@[simp] theorem State.emit_choices (s : State) (o : Output) : (s.emit o).choices = s.choices := rfl
@[simp] theorem State.emit_outputs (s : State) (o : Output) : (s.emit o).outputs = o :: s.outputs := rfl
@[simp] theorem State.emit_pending (s : State) (o : Output) : (s.emit o).pending = s.pending := rfl

@[simp] theorem State.onUp_entry (s : State) (x : UPort) (f : Upstream → Upstream) (t : Fin 128) : (s.onUp x f).entry t = s.entry t := rfl
@[simp] theorem State.onUp_window (s : State) (x : UPort) (f : Upstream → Upstream) (j : Fin 16) : (s.onUp x f).window j = s.window j := rfl
@[simp] theorem State.onDown_entry (s : State) (n : DPort) (f : Downstream → Downstream) (t : Fin 128) : (s.onDown n f).entry t = s.entry t := rfl
@[simp] theorem State.onDown_window (s : State) (n : DPort) (f : Downstream → Downstream) (j : Fin 16) : (s.onDown n f).window j = s.window j := rfl
@[simp] theorem State.onEntry_window (s : State) (t : Fin 128) (f : OttEntry → OttEntry) (j : Fin 16) : (s.onEntry t f).window j = s.window j := rfl
@[simp] theorem State.onWindow_entry (s : State) (i : Fin 16) (f : WindowEntry → WindowEntry) (t : Fin 128) : (s.onWindow i f).entry t = s.entry t := rfl
@[simp] theorem State.onCapture_entry (s : State) (f : Capture → Capture) (t : Fin 128) : (s.onCapture f).entry t = s.entry t := rfl
@[simp] theorem State.onCapture_window (s : State) (f : Capture → Capture) (j : Fin 16) : (s.onCapture f).window j = s.window j := rfl
@[simp] theorem State.onNotice_entry (s : State) (f : NoticeUnit → NoticeUnit) (t : Fin 128) : (s.onNotice f).entry t = s.entry t := rfl
@[simp] theorem State.onNotice_window (s : State) (f : NoticeUnit → NoticeUnit) (j : Fin 16) : (s.onNotice f).window j = s.window j := rfl
@[simp] theorem State.emit_entry (s : State) (o : Output) (t : Fin 128) : (s.emit o).entry t = s.entry t := rfl
@[simp] theorem State.emit_window (s : State) (o : Output) (j : Fin 16) : (s.emit o).window j = s.window j := rfl

end Machine

end Sys2Proof
end

