-- ==== Sys2Proof/Laws/Frame.lean ====
section
/-! SUPPORT. What the shared operations of traffic never change: one lemma per operation. `State.kept` gathers the RESET_N level, TIME, the strap, the command record, the settings and the queue of commands. -/

namespace Sys2Proof.Machine

/-- The part of a state that traffic leaves alone. -/
structure Kept where
  held     : Bool
  time     : Word
  strap    : BitVec 4
  command  : CommandResult
  settings : Settings
  pending  : List Instr

/-- The part of a state that traffic leaves alone. -/
def State.kept (s : State) : Kept where
  held := s.held
  time := s.time
  strap := s.strap
  command := s.command
  settings := s.settings
  pending := s.pending

theorem State.kept_pending {s t : State} (h : t.kept = s.kept) : t.pending = s.pending := congrArg Kept.pending h
theorem State.kept_settings {s t : State} (h : t.kept = s.kept) : t.settings = s.settings := congrArg Kept.settings h
theorem State.kept_time {s t : State} (h : t.kept = s.kept) : t.time = s.time := congrArg Kept.time h
theorem State.kept_held {s t : State} (h : t.kept = s.kept) : t.held = s.held := congrArg Kept.held h
theorem State.kept_strap {s t : State} (h : t.kept = s.kept) : t.strap = s.strap := congrArg Kept.strap h
theorem State.kept_command {s t : State} (h : t.kept = s.kept) : t.command = s.command := congrArg Kept.command h

/-- A fold keeps what each of its steps keeps. -/
theorem foldl_keeps {α β : Type} (g : State → β) (f : State → α → State) (h : ∀ s a, g (f s a) = g s) (l : List α)
    (s : State) : g (l.foldl f s) = g s := by
  induction l generalizing s with
  | nil => rfl
  | cons a l ih => rw [List.foldl_cons, ih, h]

/-! ### Field updates -/

theorem State.onUp_kept (s : State) (x : UPort) (f : Upstream → Upstream) (h : ∀ u, (f u).settings = u.settings) :
    (s.onUp x f).kept = s.kept := by
  cases x <;> simp [State.kept, State.settings, State.onUp, PerUp.modify, PerUp.map, h]

theorem State.onDown_kept (s : State) (n : DPort) (f : Downstream → Downstream) (h : ∀ d, (f d).settings = d.settings) :
    (s.onDown n f).kept = s.kept := by
  cases n <;> simp [State.kept, State.settings, State.onDown, PerDown.modify, PerDown.map, h]

@[simp] theorem State.onEntry_kept (s : State) (t : Fin 128) (f : OttEntry → OttEntry) : (s.onEntry t f).kept = s.kept := rfl

theorem State.onCapture_kept (s : State) (f : Capture → Capture) (h : ∀ c, (f c).settings = c.settings) :
    (s.onCapture f).kept = s.kept := by
  simp [State.kept, State.settings, State.onCapture, h]

theorem State.onNotice_kept (s : State) (f : NoticeUnit → NoticeUnit)
    (h : ∀ u, (f u).enable = u.enable ∧ (f u).addr = u.addr ∧ (f u).port = u.port ∧ (f u).repeatMs = u.repeatMs) :
    (s.onNotice f).kept = s.kept := by
  simp [State.kept, State.settings, State.onNotice, h]

theorem State.onWindow_kept (s : State) (i : Fin 16) (f : WindowEntry → WindowEntry) (h : ∀ e, (f e).settings = e.settings) :
    (s.onWindow i f).kept = s.kept := by
  have hw : (s.onWindow i f).windows.toList.map WindowEntry.settings = s.windows.toList.map WindowEntry.settings := by
    apply List.ext_getElem <;> simp only [List.length_map, Vector.length_toList, State.onWindow]
    intro k h1 h2
    simp only [List.getElem_map, Vector.getElem_toList]
    rw [Vector.getElem_set]
    split
    · next e => subst e; exact h _
    · rfl
  simp [State.kept, State.settings] at hw ⊢
  exact hw

@[simp] theorem State.emit_kept (s : State) (o : Output) : (s.emit o).kept = s.kept := rfl

@[simp] theorem State.countUp_kept (s : State) (x : UPort) (f : UpCounters → UpCounters) : (s.countUp x f).kept = s.kept :=
  s.onUp_kept x _ fun _ => rfl

@[simp] theorem State.countDown_kept (s : State) (n : DPort) (f : DownCounters → DownCounters) :
    (s.countDown n f).kept = s.kept :=
  s.onDown_kept n _ fun _ => rfl

/-! ### Causes, parts and the capture unit -/

/-- The examination changes the notice state and the repeat mark alone (R169). -/
theorem NoticeUnit.examine_only (u : NoticeUnit) :
    u.examine = { u with state := u.examine.state, repeatMark := u.examine.repeatMark } := by
  unfold NoticeUnit.examine; split <;> rfl

@[simp] theorem State.raise_kept (s : State) (c : Cause) : (s.raise c).kept = s.kept :=
  s.onNotice_kept _ fun _ => by rw [NoticeUnit.examine_only]; exact ⟨rfl, rfl, rfl, rfl⟩

@[simp] theorem State.placePart_kept (s : State) (x : UPort) (p : Part) : (s.placePart x p).kept = s.kept := by
  unfold State.placePart
  split
  · simp
  · exact s.onUp_kept x _ fun _ => rfl

@[simp] theorem State.placeParts_kept (s : State) (x : UPort) (ps : List Part) : (s.placeParts x ps).kept = s.kept :=
  foldl_keeps State.kept _ (fun s p => s.placePart_kept x p) ps s

@[simp] theorem State.answer_kept (s : State) (x : UPort) (r : Request) (status : Status) :
    (s.answer x r status).kept = s.kept := by
  unfold State.answer; split <;> simp

@[simp] theorem State.offer_kept (s : State) (flag : Bool) (b : RecordBody) : (s.offer flag b).kept = s.kept := by
  unfold State.offer
  simp only
  repeat' split
  all_goals simp
  all_goals exact s.onCapture_kept _ fun _ => rfl

@[simp] theorem State.freezeAtZero_kept (s : State) : s.freezeAtZero.kept = s.kept := by
  unfold State.freezeAtZero
  split
  · rw [State.raise_kept]; exact s.onCapture_kept _ fun _ => rfl
  · rfl

@[simp] theorem State.triggerCapture_kept (s : State) (candidate : Bool) (b : RecordBody) :
    (s.triggerCapture candidate b).kept = s.kept := by
  unfold State.triggerCapture
  cases candidate <;> simp <;> exact s.onCapture_kept _ fun _ => rfl

@[simp] theorem State.recordTriggered_kept (s : State) (b : RecordBody) : (s.recordTriggered b).kept = s.kept := by
  unfold State.recordTriggered
  split
  · rw [State.freezeAtZero_kept, State.onCapture_kept, State.offer_kept]
    intro c; rfl
  · simp

@[simp] theorem State.hand_kept (s : State) (candidate fires : Bool) (b : RecordBody) :
    (s.hand candidate fires b).kept = s.kept := by
  unfold State.hand
  repeat' split
  all_goals simp

@[simp] theorem State.handRequest_kept (s : State) (h : Handing) : (s.handRequest h).kept = s.kept := s.hand_kept _ _ _

@[simp] theorem State.handCompletion_kept (s : State) (t : Fin 128) (status : Status) :
    (s.handCompletion t status).kept = s.kept := s.hand_kept _ _ _

/-! ### Entries -/

@[simp] theorem State.release_kept (s : State) (t : Fin 128) : (s.release t).kept = s.kept := rfl

@[simp] theorem State.orphan_kept (s : State) (t : Fin 128) : (s.orphan t).kept = s.kept := rfl

@[simp] theorem State.complete_kept (s : State) (t : Fin 128) (status : Status) : (s.complete t status).kept = s.kept := by
  unfold State.complete; split <;> simp

@[simp] theorem State.retire_kept (s : State) (t : Fin 128) (status : Status) : (s.retire t status).kept = s.kept := by
  simp [State.retire]

@[simp] theorem State.dropItem_kept (s : State) (t : Fin 128) : (s.dropItem t).kept = s.kept :=
  s.onDown_kept _ _ fun _ => rfl

/-! ### Heads -/

@[simp] theorem State.raiseOpt_kept (s : State) (c : Option Cause) : (s.raiseOpt c).kept = s.kept := by
  cases c <;> simp [State.raiseOpt]

@[simp] theorem State.popHead_kept (s : State) (x : UPort) : (s.popHead x).kept = s.kept := s.onUp_kept _ _ fun _ => rfl

@[simp] theorem State.resolveHead_kept (s : State) (x : UPort) (r : Request) (code : WindowCode) (d : Disposition)
    (cause : Option Cause) (forward : Option ForwardInfo) : (s.resolveHead x r code d cause forward).kept = s.kept := by
  simp only [State.resolveHead, State.handRequest_kept, State.raiseOpt_kept, State.countUp_kept, State.popHead_kept]

@[simp] theorem State.refuseHead_kept (s : State) (x : UPort) (r : Request) (code : WindowCode) (d : Disposition)
    (status : Status) : (s.refuseHead x r code d status).kept = s.kept := by
  simp [State.refuseHead]

@[simp] theorem State.failWaiting_kept (s : State) (x : UPort) (n : DPort) : (s.failWaiting x n).kept = s.kept := by
  unfold State.failWaiting
  repeat' split
  all_goals simp

@[simp] theorem State.choices_kept (s : State) (k : Nat) : ({ s with choices := k } : State).kept = s.kept := rfl

@[simp] theorem State.failWaitingHeads_kept (s : State) (n : DPort) : (s.failWaitingHeads n).kept = s.kept := by
  unfold State.failWaitingHeads; split <;> simp

/-! ### The allocation event -/

@[simp] theorem State.serve_kept (s : State) (x : UPort) (admitted : Bool) : (s.serve x admitted).1.kept = s.kept := by
  unfold State.serve
  repeat' split
  all_goals rfl

@[simp] theorem State.join_kept (s : State) (x : UPort) (ticket : Option Ticket) : (s.join x ticket).kept = s.kept := by
  unfold State.join
  repeat' split
  all_goals first | rfl | exact s.onDown_kept _ _ fun _ => rfl

@[simp] theorem State.resolveForwarded_kept (s : State) (x : UPort) (ticket : Option Ticket) :
    (s.resolveForwarded x ticket).kept = s.kept := by
  unfold State.resolveForwarded
  repeat' split
  all_goals simp

@[simp] theorem State.resolveTickets_kept (s : State) (served : UPort) (t0 t1 : Option Ticket) :
    (s.resolveTickets served t0 t1).kept = s.kept := by
  unfold State.resolveTickets
  repeat' split
  all_goals simp

@[simp] theorem State.allocate_kept (s : State) : s.allocate.kept = s.kept := by
  unfold State.allocate
  simp only [State.resolveTickets_kept]
  split <;> simp

/-! ### The fence and the link-down -/

@[simp] theorem State.flush_kept (s : State) (n : DPort) : (s.flush n).kept = s.kept := s.onDown_kept _ _ fun _ => rfl

@[simp] theorem State.fenceEntry_kept (n : DPort) (s : State) (t : Fin 128) : (s.fenceEntry n t).kept = s.kept := by
  unfold State.fenceEntry
  repeat' split
  all_goals simp

@[simp] theorem State.unlinkEntry_kept (n : DPort) (s : State) (t : Fin 128) : (s.unlinkEntry n t).kept = s.kept := by
  unfold State.unlinkEntry
  repeat' split
  all_goals simp

@[simp] theorem State.fence_kept (s : State) (n : DPort) (reason : FenceReason) : (s.fence n reason).kept = s.kept := by
  unfold State.fence
  split
  · rfl
  · simp only [State.failWaitingHeads_kept, State.flush_kept, foldl_keeps State.kept _ (State.fenceEntry_kept n),
      State.raise_kept]
    exact s.onDown_kept n _ fun _ => rfl

@[simp] theorem State.orphanTest_kept (s : State) (n : DPort) : (s.orphanTest n).kept = s.kept := by
  unfold State.orphanTest; split <;> simp

@[simp] theorem State.fenceEvent_kept (s : State) (n : DPort) (reason : FenceReason) :
    (s.fenceEvent n reason).kept = s.kept := by
  unfold State.fenceEvent; split <;> simp

@[simp] theorem State.orphanTestEvent_kept (s : State) (n : DPort) : (s.orphanTestEvent n).kept = s.kept := by
  unfold State.orphanTestEvent; split <;> simp

@[simp] theorem State.linkDown_kept (s : State) (n : DPort) : (s.linkDown n).kept = s.kept := by
  unfold State.linkDown
  simp only [State.failWaitingHeads_kept, State.flush_kept, foldl_keeps State.kept _ (State.unlinkEntry_kept n)]
  split <;> simp only [State.raise_kept] <;> exact s.onDown_kept n _ fun _ => rfl

@[simp] theorem State.forceDown_kept (s : State) (n : DPort) : (s.forceDown n).kept = s.kept := by
  unfold State.forceDown; split <;> simp

/-! ### The events of the ports and the timers -/

@[simp] theorem State.upstreamLinkUp_kept (s : State) (x : UPort) : (s.upstreamLinkUp x).kept = s.kept := by
  unfold State.upstreamLinkUp
  split
  · rfl
  · rw [State.raise_kept]; exact s.onUp_kept x _ fun _ => rfl

@[simp] theorem State.departEntry_kept (x : UPort) (s : State) (t : Fin 128) : (s.departEntry x t).kept = s.kept := by
  unfold State.departEntry
  repeat' split
  all_goals simp

@[simp] theorem State.upstreamLinkDown_kept (s : State) (x : UPort) : (s.upstreamLinkDown x).kept = s.kept := by
  unfold State.upstreamLinkDown
  split
  · rfl
  · simp only [State.allocate_kept, foldl_keeps State.kept _ State.orphanTest_kept,
      foldl_keeps State.kept _ (State.departEntry_kept x)]
    split <;> simp only [State.handRequest_kept, State.raise_kept] <;> exact s.onUp_kept x _ fun _ => rfl

@[simp] theorem State.downstreamLinkUp_kept (s : State) (n : DPort) : (s.downstreamLinkUp n).kept = s.kept := by
  unfold State.downstreamLinkUp
  split
  · rfl
  · rw [State.raise_kept]; exact s.onDown_kept n _ fun _ => rfl

@[simp] theorem State.downstreamLinkDown_kept (s : State) (n : DPort) : (s.downstreamLinkDown n).kept = s.kept := by
  unfold State.downstreamLinkDown; split <;> simp

@[simp] theorem State.recoverTest_kept (s : State) (n : DPort) : (s.recoverTest n).kept = s.kept := by
  unfold State.recoverTest
  simp only
  split
  · rw [State.raise_kept]; exact s.onDown_kept n _ fun _ => rfl
  · rfl

@[simp] theorem State.degradeTest_kept (s : State) (n : DPort) : (s.degradeTest n).kept = s.kept := by
  unfold State.degradeTest
  simp only
  split
  · rw [State.raise_kept]; exact s.onDown_kept n _ fun _ => rfl
  · rfl

@[simp] theorem State.countGood_kept (s : State) (n : DPort) : (s.countGood n).kept = s.kept := by
  rw [State.countGood, State.recoverTest_kept]; exact s.onDown_kept n _ fun _ => rfl

@[simp] theorem State.damageTest_kept (s : State) (n : DPort) : (s.damageTest n).kept = s.kept := by
  unfold State.damageTest; split <;> simp

@[simp] theorem State.countDamaged_kept (s : State) (p : Port) : (s.countDamaged p).kept = s.kept := by
  cases p with
  | up x => exact s.countUp_kept x _
  | down n => simp only [State.countDamaged, State.damageTest_kept, State.degradeTest_kept]; exact s.onDown_kept n _ fun _ => rfl

@[simp] theorem State.protocolErrorUp_kept (s : State) (x : UPort) : (s.protocolErrorUp x).kept = s.kept := by
  simp only [State.protocolErrorUp, State.raise_kept, State.countUp_kept]

@[simp] theorem State.protocolErrorDown_kept (s : State) (n : DPort) : (s.protocolErrorDown n).kept = s.kept := by
  simp only [State.protocolErrorDown, State.raise_kept, State.countDown_kept]

@[simp] theorem State.requestArrives_kept (s : State) (x : UPort) (r : Request) : (s.requestArrives x r).kept = s.kept := by
  unfold State.requestArrives
  split
  · exact s.onUp_kept x _ fun _ => rfl
  · simp

@[simp] theorem State.crArrivesUp_kept (s : State) (x : UPort) (count : BitVec 7) : (s.crArrivesUp x count).kept = s.kept := by
  unfold State.crArrivesUp
  split
  · exact s.onUp_kept x _ fun _ => rfl
  · simp

@[simp] theorem State.crArrivesDown_kept (s : State) (n : DPort) (count : BitVec 7) :
    (s.crArrivesDown n count).kept = s.kept := by
  unfold State.crArrivesDown
  simp only
  repeat' split
  all_goals first
    | exact s.onDown_kept n _ fun _ => rfl
    | simp only [State.fenceEvent_kept, State.countDown_kept]

@[simp] theorem State.strayPart_kept (s : State) (n : DPort) : (s.strayPart n).kept = s.kept := by
  simp only [State.strayPart, State.raise_kept, State.countDown_kept]

@[simp] theorem State.latePart_kept (s : State) (n : DPort) (t : Fin 128) (last : Bool) : (s.latePart n t last).kept = s.kept := by
  unfold State.latePart
  cases last <;> simp

@[simp] theorem State.endAnswer_kept (s : State) (n : DPort) (t : Fin 128) (status : Status) (last : Bool) :
    (s.endAnswer n t status last).kept = s.kept := by
  unfold State.endAnswer
  cases last <;> simp

@[simp] theorem State.expireEntry_kept (s : State) (t : Fin 128) : (s.expireEntry t).kept = s.kept := by
  unfold State.expireEntry; split <;> simp

@[simp] theorem State.expire_kept (s : State) (t : Fin 128) : (s.expire t).kept = s.kept := by
  unfold State.expire
  split
  · simp only [State.expireEntry_kept, State.raise_kept, State.countDown_kept]
  · rfl

@[simp] theorem State.forwardPart_kept (s : State) (t : Fin 128) (p : Part) : (s.forwardPart t p).kept = s.kept := by
  simp [State.forwardPart]

@[simp] theorem State.forwardLast_kept (s : State) (t : Fin 128) (p : Part) : (s.forwardLast t p).kept = s.kept := by
  simp [State.forwardLast]

@[simp] theorem State.livePart_kept (s : State) (n : DPort) (t : Fin 128) (p : Part) : (s.livePart n t p).kept = s.kept := by
  unfold State.livePart
  repeat' split
  all_goals simp

@[simp] theorem State.partArrives_kept (s : State) (n : DPort) (p : Part) : (s.partArrives n p).kept = s.kept := by
  unfold State.partArrives; split <;> simp

@[simp] theorem State.receive_kept (s : State) (p : Port) (m : Message) : (s.receive p m).kept = s.kept := by
  unfold State.receive; split <;> simp

@[simp] theorem State.arrive_kept (s : State) (p : Port) (m : Message) : (s.arrive p m).kept = s.kept := by
  unfold State.arrive
  repeat' split
  all_goals simp

@[simp] theorem State.arriveDamaged_kept (s : State) (p : Port) (bytes : Option (List Byte)) :
    (s.arriveDamaged p bytes).kept = s.kept := by
  unfold State.arriveDamaged
  repeat' split
  all_goals simp

@[simp] theorem State.issueEntry_kept (s : State) (item : EgressItem) : (s.issueEntry item).kept = s.kept := by
  cases item <;> rfl

@[simp] theorem State.issueHead_kept (s : State) (n : DPort) : (s.issueHead n).kept = s.kept := by
  unfold State.issueHead
  split
  · rfl
  · split
    · simp only [State.allocate_kept, State.issueEntry_kept]
      rw [State.onDown_kept]
      · simp
      · intro d; rfl
    · rfl

@[simp] theorem State.sendCr_kept (s : State) (x : UPort) : (s.sendCr x).kept = s.kept := by
  unfold State.sendCr
  rw [State.onUp_kept, State.emit_kept]
  intro u; rfl

@[simp] theorem State.sendPart_kept (s : State) (x : UPort) : (s.sendPart x).kept = s.kept := by
  unfold State.sendPart
  split
  · rfl
  · rw [State.onUp_kept, State.emit_kept]
    intro u; rfl

@[simp] theorem State.sendNotice_kept (s : State) (x : UPort) : (s.sendNotice x).kept = s.kept := by
  unfold State.sendNotice
  split
  · rw [State.sendPart_kept]; exact s.onNotice_kept _ fun _ => ⟨rfl, rfl, rfl, rfl⟩
  · rw [State.onNotice_kept, State.onUp_kept, State.emit_kept]
    · intro u; rfl
    · exact fun _ => ⟨rfl, rfl, rfl, rfl⟩

@[simp] theorem State.repeatExpire_kept (s : State) : s.repeatExpire.kept = s.kept := by
  unfold State.repeatExpire
  split
  · exact s.onNotice_kept _ fun _ => ⟨rfl, rfl, rfl, rfl⟩
  · rfl

/-- TIME alone may change, by one (R183). -/
theorem State.advance_only (s : State) : s.advance = s ∨ s.advance = { s with time := s.time + 1 } := by
  unfold State.advance
  split
  · exact .inl rfl
  · exact .inr rfl

/-! ### Heads that are no management writes -/

@[simp] theorem State.countHit_kept (s : State) (i : Fin 16) : (s.countHit i).kept = s.kept := s.onWindow_kept i _ fun _ => rfl

@[simp] theorem State.performRead_kept (s : State) (x : UPort) (r : Request) (reg : Reg) :
    (s.performRead x r reg).kept = s.kept := by
  simp [State.performRead]

@[simp] theorem State.zeroFill_kept (s : State) (x : UPort) (r : Request) : (s.zeroFill x r).kept = s.kept := by
  unfold State.zeroFill
  simp only [State.resolveHead_kept]
  split <;> simp

/-- Whatever a head's decode comes to, resolving it keeps the settings, unless it is a management write (R48 to R56). -/
theorem State.resolveOutcome_kept (s : State) (x : UPort) (r : Request) (o : HeadOutcome)
    (h : ∀ reg v, o ≠ .mgmtWrite reg v) : (s.resolveOutcome x r o).kept = s.kept := by
  cases o with
  | mgmtWrite reg v => exact absurd rfl (h reg v)
  | noHit a => cases a <;> simp [State.resolveOutcome]
  | forward d =>
    simp only [State.resolveOutcome, State.allocate_kept]
    rw [State.onUp_kept, State.countHit_kept]
    intro u; rfl
  | _ => simp [State.resolveOutcome]

@[simp] theorem State.forwardHead_kept (s : State) (x : UPort) : (s.forwardHead x).kept = s.kept := by
  unfold State.forwardHead
  repeat' split
  all_goals first | simp | exact s.resolveOutcome_kept _ _ _ (by simp)

end Sys2Proof.Machine
end

