-- ==== Sys2Proof/Laws/PerInstr.lean ====
section
/-! SUPPORT. The family KeepsQueue: a command's own effect leaves the queue of commands as it stands. One lemma for each
command. -/

namespace Sys2Proof.Machine

/-! ### Management writes and resets keep the queue -/

theorem State.powered_pending (s : State) (m : BitVec 4) : (s.powered m).pending = s.pending := by simp only [State.powered]

theorem State.storeUp_pending {s t : State} {x : UPort} {r : UpReg} {v : Word} (h : s.storeUp x r v = some t) :
    t.pending = s.pending := by
  cases r <;> simp [State.storeUp] at h <;> obtain ⟨_, _, rfl⟩ := h <;> rfl

theorem State.storeDown_pending {s t : State} {n : DPort} {r : DownReg} {v : Word} (h : s.storeDown n r v = some t) :
    t.pending = s.pending := by
  cases r <;> simp [State.storeDown] at h <;> obtain ⟨_, _, rfl⟩ := h <;> rfl

theorem State.store_pending {s t : State} {r : Reg} {v : Word} (h : s.store r v = some t) : t.pending = s.pending := by
  cases r with
  | up x r => exact State.storeUp_pending h
  | down n r => exact State.storeDown_pending h
  | mgmtPermit => simp [State.store] at h; obtain ⟨_, rfl⟩ := h; rfl
  | mgmtBaseLo => simp [State.store] at h; obtain ⟨_, rfl⟩ := h; rfl
  | noticeAddrLo => simp [State.store] at h; obtain ⟨_, rfl⟩ := h; rfl
  | mgmtBaseHi | enable | clear | noticeAck | noticeAddrHi | release | matchUnit => cases h; rfl
  | noticePort | noticeRepeat | combine | trigger | capMgmt | capDefault | postCount | threshold | mode | staging =>
    simp [State.store] at h; obtain ⟨_, _, rfl⟩ := h; rfl
  | _ => simp [State.store] at h

theorem State.recordCommand_pending (s : State) (v : Word) : (s.recordCommand v).pending = s.pending := rfl

theorem State.runCommand_pending (s : State) (c : Command) (port : BitVec 8) : (s.runCommand c port).pending = s.pending := by
  unfold State.runCommand
  split
  · exact State.kept_pending (s.fenceEvent_kept _ _)
  · unfold State.unfence; split <;> rfl
  · unfold State.retrain
    split
    · exact State.kept_pending ((State.allocate_kept _).trans (s.forceDown_kept _))
    · rfl
  all_goals rfl

theorem State.writeCommand_pending (s : State) (v : Word) : (s.writeCommand v).pending = s.pending := by
  unfold State.writeCommand; split
  · rw [State.runCommand_pending, State.recordCommand_pending]
  · rfl

theorem State.runControl_pending (s : State) (i : Fin 16) (v : Word) : (s.runControl i v).pending = s.pending := by
  unfold State.runControl
  repeat' split
  all_goals rfl

theorem State.getD_store_pending (s : State) (r : Reg) (v : Word) : ((s.store r v).getD s).pending = s.pending := by
  cases h : s.store r v with
  | none => rfl
  | some t => exact State.store_pending h

theorem State.elim_store_pending (s : State) (r : Reg) (v : Word) (f : State → State) (hf : ∀ s, (f s).pending = s.pending) :
    ((s.store r v).elim s f).pending = s.pending := by
  cases h : s.store r v with
  | none => rfl
  | some t => exact (hf t).trans (State.store_pending h)

theorem State.access_pending (s : State) (r : Reg) (v : Word) : (s.access r v).pending = s.pending := by
  unfold State.access
  split
  · exact s.runControl_pending _ _
  · exact s.writeCommand_pending _
  · exact s.elim_store_pending _ _ _ fun s => State.kept_pending s.allocate_kept
  · exact s.elim_store_pending _ _ _ fun s => State.kept_pending (s.orphanTestEvent_kept _)
  · exact s.getD_store_pending _ _

theorem State.softAnswer_kept (x : UPort) (s : State) (r : Request) : (s.softAnswer x r).kept = s.kept := by
  unfold State.softAnswer
  rw [State.onUp_kept, State.answer_kept]
  intro u; rfl

theorem State.softQueue_kept (s : State) (x : UPort) : (s.softQueue x).kept = s.kept := by
  unfold State.softQueue
  rw [State.onUp_kept, foldl_keeps State.kept _ (State.softAnswer_kept x)]
  intro u; rfl

theorem State.softDownstream_pending (s : State) : s.softDownstream.pending = s.pending := by
  simp only [State.softDownstream]
  exact State.kept_pending (foldl_keeps State.kept _ State.forceDown_kept DPort.all s)

theorem State.softValues_pending (s : State) : s.softValues.pending = s.pending := by simp only [State.softValues]

theorem State.softReset_pending (s : State) (x : UPort) (r : Request) (v : Word) : (s.softReset x r v).pending = s.pending := by
  unfold State.softReset
  simp only
  rw [State.kept_pending (State.handRequest_kept _ _), State.kept_pending (State.countUp_kept _ _ _),
    State.softValues_pending, State.kept_pending (State.softQueue_kept _ _), State.kept_pending (State.softQueue_kept _ _),
    State.softDownstream_pending, State.kept_pending (State.popHead_kept _ _), State.kept_pending (State.answer_kept _ _ _ _),
    State.recordCommand_pending]

theorem State.performWrite_pending (s : State) (x : UPort) (r : Request) (reg : Reg) (v : Word) :
    (s.performWrite x r reg v).pending = s.pending := by
  unfold State.performWrite
  split
  · exact s.softReset_pending x r v
  · split <;>
      rw [State.kept_pending (State.resolveHead_kept _ _ _ _ _ _ _), State.access_pending,
        State.kept_pending (State.answer_kept _ _ _ _)]

theorem State.resolveOutcome_pending (s : State) (x : UPort) (r : Request) (o : HeadOutcome) :
    (s.resolveOutcome x r o).pending = s.pending := by
  by_cases h : ∃ reg v, o = .mgmtWrite reg v
  · obtain ⟨reg, v, rfl⟩ := h; exact s.performWrite_pending x r reg v
  · exact State.kept_pending (s.resolveOutcome_kept x r o fun reg v e => h ⟨reg, v, e⟩)

theorem State.dispatch_pending (s : State) (x : UPort) : (s.dispatch x).pending = s.pending := by
  unfold State.dispatch; split
  · exact s.resolveOutcome_pending _ _ _
  · rfl

theorem State.dispatchWrite_pending (s : State) (x : UPort) (row : Reg → Word → Bool) :
    (s.dispatchWrite x row).pending = s.pending := by
  unfold State.dispatchWrite
  repeat' split
  all_goals first | rfl | exact s.resolveOutcome_pending _ _ _

end Sys2Proof.Machine

namespace Sys2Proof.Laws.KeepsQueue

open Sys2Proof.Machine

/-- The command's effect leaves the queue of commands as it stands. -/
def Statement (i : Instr) : Prop := ∀ s t : State, exec i s = .next t → t.pending = s.pending

/-- A command that runs while RESET_N is released keeps the queue where its effect does. -/
theorem of_running {s t : State} (f : State → State) (hf : ∀ s, (f s).pending = s.pending)
    (h : whileRunning s f = .next t) : t.pending = s.pending := by
  simp only [whileRunning, Host.Outcome.next.injEq] at h
  subst h
  split
  · rfl
  · exact hf s

/-- A command that runs while RESET_N is released keeps the queue where its effect keeps all that traffic leaves alone. -/
theorem of_kept {s t : State} (f : State → State) (hf : ∀ s, (f s).kept = s.kept) (h : whileRunning s f = .next t) :
    t.pending = s.pending :=
  of_running f (fun s => State.kept_pending (hf s)) h

/-- A command whose outcome is known keeps the queue where that next state does. -/
theorem of_next {i : Instr} (f : State → State) (he : ∀ s, exec i s = .next (f s)) (hf : ∀ s, (f s).pending = s.pending) :
    Statement i := by
  intro s t h
  rw [he, Host.Outcome.next.injEq] at h
  rw [← h, hf]

theorem powerOnReset (m : BitVec 4) : Statement (.powerOnReset m) :=
  of_next (fun s => s.powered m) (fun _ => rfl) fun s => s.powered_pending m
theorem resetNAsserted : Statement .resetNAsserted :=
  of_next (fun s => { s.powered s.strap with held := true }) (fun _ => rfl) fun s => s.powered_pending s.strap
theorem upstreamLinkUp (x : UPort) : Statement (.upstreamLinkUp x) := fun _ _ => of_kept (fun s => s.upstreamLinkUp x) fun s => s.upstreamLinkUp_kept x
theorem upstreamLinkDown (x : UPort) : Statement (.upstreamLinkDown x) := fun _ _ => of_kept (fun s => s.upstreamLinkDown x) fun s => s.upstreamLinkDown_kept x
theorem downstreamLinkUp (n : DPort) : Statement (.downstreamLinkUp n) := fun _ _ => of_kept (fun s => s.downstreamLinkUp n) fun s => s.downstreamLinkUp_kept n
theorem downstreamLinkDown (n : DPort) : Statement (.downstreamLinkDown n) := fun _ _ =>
  of_kept (fun s => s.downstreamLinkDown n) fun s => s.downstreamLinkDown_kept n
theorem requestArrival (x : UPort) (r : Request) : Statement (.requestArrival x r) := fun _ _ => of_kept (fun s => s.arrive (.up x) (.request r)) fun s => s.arrive_kept _ _
theorem upstreamCrArrival (x : UPort) (count : BitVec 7) : Statement (.upstreamCrArrival x count) := fun _ _ =>
  of_kept (fun s => s.arrive (.up x) (.cr count)) fun s => s.arrive_kept _ _
theorem partArrival (n : DPort) (p : Part) : Statement (.partArrival n p) := fun _ _ => of_kept (fun s => s.arrive (.down n) (.rsp p)) fun s => s.arrive_kept _ _
theorem downstreamCrArrival (n : DPort) (count : BitVec 7) : Statement (.downstreamCrArrival n count) := fun _ _ =>
  of_kept (fun s => s.arrive (.down n) (.cr count)) fun s => s.arrive_kept _ _
theorem damagedMessageArrival (p : Port) (bytes : Option (List Byte)) : Statement (.damagedMessageArrival p bytes) := fun _ _ =>
  of_kept (fun s => s.arriveDamaged p bytes) fun s => s.arriveDamaged_kept _ _
theorem misdirectedMessageArrival (m : Misdirected) : Statement (.misdirectedMessageArrival m) := by
  intro s t
  cases m with
  | rspUpstream x p => exact of_kept (fun s => s.arrive (.up x) (.rsp p)) fun s => s.arrive_kept _ _
  | requestDownstream n r => exact of_kept (fun s => s.arrive (.down n) (.request r)) fun s => s.arrive_kept _ _
theorem dispatch (x : UPort) : Statement (.dispatch x) := fun _ _ => of_running (fun s => s.dispatch x) fun s => s.dispatch_pending x
theorem forwarding (x : UPort) : Statement (.forwarding x) := fun _ _ => of_kept (fun s => s.forwardHead x) fun s => s.forwardHead_kept x
theorem issue (n : DPort) : Statement (.issue n) := fun _ _ => of_kept (fun s => s.issueHead n) fun s => s.issueHead_kept n
theorem expiry (t : Fin 128) : Statement (.expiry t) := fun _ _ => of_kept (fun s => s.expire t) fun s => s.expire_kept t
theorem repeatExpiry : Statement .repeatExpiry := fun _ _ => of_kept State.repeatExpire State.repeatExpire_kept
theorem timeAdvance : Statement .timeAdvance := fun _ _ =>
  of_running State.advance fun s => by rcases s.advance_only with h | h <;> rw [h]

/-- A transmitter takes a message of the kind the arbiter chooses, or nothing. -/
theorem of_chosen {s t : State} (x : UPort) (c : Candidate) (f : State → State) (hf : ∀ s, (f s).kept = s.kept)
    (h : whileRunning s (fun s => if s.arbiterChoice x = some c then f s else s) = .next t) : t.pending = s.pending :=
  of_kept (fun s => if s.arbiterChoice x = some c then f s else s) (fun s => by split <;> [exact hf s; rfl]) h

theorem crTransmit (x : UPort) : Statement (.crTransmit x) := fun _ _ =>
  of_chosen x .cr (fun s => s.sendCr x) fun s => s.sendCr_kept x
theorem responsePartTransmit (x : UPort) : Statement (.responsePartTransmit x) := fun _ _ =>
  of_chosen x .part (fun s => s.sendPart x) fun s => s.sendPart_kept x
theorem noticeTransmit (x : UPort) : Statement (.noticeTransmit x) := fun _ _ =>
  of_chosen x .notice (fun s => s.sendNotice x) fun s => s.sendNotice_kept x

/-- A management write is the dispatch of its head. -/
theorem of_write {s t : State} (x : UPort) (row : Reg → Word → Bool)
    (h : whileRunning s (fun s => s.dispatchWrite x row) = .next t) : t.pending = s.pending :=
  of_running (fun s => s.dispatchWrite x row) (fun s => s.dispatchWrite_pending x row) h

theorem softReset (x : UPort) : Statement (.softReset x) := fun _ _ => of_write _ _
theorem fenceCommand (x : UPort) (arg : BitVec 8) : Statement (.fenceCommand x arg) := fun _ _ => of_write _ _
theorem unfence (x : UPort) (arg : BitVec 8) : Statement (.unfence x arg) := fun _ _ => of_write _ _
theorem retrain (x : UPort) (arg : BitVec 8) : Statement (.retrain x arg) := fun _ _ => of_write _ _
theorem clearCounters (x : UPort) : Statement (.clearCounters x) := fun _ _ => of_write _ _
theorem captureArm (x : UPort) : Statement (.captureArm x) := fun _ _ => of_write _ _
theorem captureStop (x : UPort) : Statement (.captureStop x) := fun _ _ => of_write _ _
theorem captureClear (x : UPort) : Statement (.captureClear x) := fun _ _ => of_write _ _
theorem unknownCommand (x : UPort) (code : BitVec 8) : Statement (.unknownCommand x code) := fun _ _ => of_write _ _
theorem commit (x : UPort) (i : Fin 16) : Statement (.commit x i) := fun _ _ => of_write _ _
theorem disable (x : UPort) (i : Fin 16) : Statement (.disable x i) := fun _ _ => of_write _ _
theorem mgmtBaseLoWrite (x : UPort) (v : Word) : Statement (.mgmtBaseLoWrite x v) := fun _ _ => of_write _ _
theorem reserveWrite (x : UPort) (p : UPort) (v : Word) : Statement (.reserveWrite x p v) := fun _ _ => of_write _ _
theorem orphanLimitWrite (x : UPort) (n : DPort) (v : Word) : Statement (.orphanLimitWrite x n v) := fun _ _ => of_write _ _
theorem enableWrite (x : UPort) (v : Word) : Statement (.enableWrite x v) := fun _ _ => of_write _ _
theorem clearWrite (x : UPort) (v : Word) : Statement (.clearWrite x v) := fun _ _ => of_write _ _
theorem noticeAck (x : UPort) (v : Word) : Statement (.noticeAck x v) := fun _ _ => of_write _ _
theorem captureRelease (x : UPort) : Statement (.captureRelease x) := fun _ _ => of_write _ _
theorem settingWrite (x : UPort) (r : Reg) (v : Word) : Statement (.settingWrite x r v) := fun _ _ => of_write _ _

end Sys2Proof.Laws.KeepsQueue
end

