-- ==== Sys2Proof/WellFormed.lean ====
section
/-! DEFINITION. Which command terms name an event of their row: a message that is structurally usable (R18), delivered
bytes that are not (R191), a code that names no command (R184), a register that SETTING_WRITE covers (R180). -/

namespace Sys2Proof

open Machine in
/-- Whether a command's operands are ones its row can have. `exec` gives every term a meaning, well-formed or not. -/
def Instr.wellFormed : Instr → Bool
  | .powerOnReset _ => true
  | .upstreamLinkUp _ => true
  | .upstreamLinkDown _ => true
  | .downstreamLinkUp _ => true
  | .downstreamLinkDown _ => true
  | .requestArrival _ r => (Message.request r).usable
  | .upstreamCrArrival _ count => (Message.cr count).usable
  | .partArrival _ p => (Message.rsp p).usable
  | .downstreamCrArrival _ count => (Message.cr count).usable
  | .damagedMessageArrival _ delivered => (delivered.bind Message.ofBytes).isNone
  | .misdirectedMessageArrival (.rspUpstream _ p) => (Message.rsp p).usable
  | .misdirectedMessageArrival (.requestDownstream _ r) => (Message.request r).usable
  | .dispatch _ => true
  | .forwarding _ => true
  | .issue _ => true
  | .crTransmit _ => true
  | .responsePartTransmit _ => true
  | .noticeTransmit _ => true
  | .expiry _ => true
  | .repeatExpiry => true
  | .softReset _ => true
  | .fenceCommand _ _ => true
  | .unfence _ _ => true
  | .retrain _ _ => true
  | .clearCounters _ => true
  | .captureArm _ => true
  | .captureStop _ => true
  | .captureClear _ => true
  | .unknownCommand _ code => (Command.ofCode code.toNat).isNone
  | .commit _ _ => true
  | .disable _ _ => true
  | .mgmtBaseLoWrite _ _ => true
  | .reserveWrite _ _ _ => true
  | .orphanLimitWrite _ _ _ => true
  | .enableWrite _ _ => true
  | .clearWrite _ _ => true
  | .noticeAck _ _ => true
  | .captureRelease _ => true
  | .settingWrite _ r _ => r.plainSetting
  | .timeAdvance => true
  | .resetNAsserted => true

end Sys2Proof
end

