-- ==== Sys2Proof/Tests/Slice0.lean ====
section
/-! SUPPORT. Tests of one command each on a small state, with the values of the worked sequences of chapter 12 or of the
rule cited, the smoke test of the well-formedness checks, and for each obligation with hypotheses a witness that meets
them. -/

namespace Sys2Proof.Tests

open Sys2Proof Sys2Proof.Machine

set_option Elab.async false

/-! ### States to start from -/

/-- The state of a result; every command of this block answers one. -/
def nextOf : Result → State
  | .next s => s
  | .fault _ => State.reset
  | .refused _ => State.reset

/-- A bridge strapped to MSEL 2 with all links UP, 4 upstream credits, 32 request credits, and window 0 of section 12.1. -/
def running : State :=
  let s := State.powerOn 2
  { s with
    up := s.up.map fun u => { u with link := .up, credits := 4 }
    down := s.down.map fun d => { d with link := .up, credits := 32 }
    windows := s.windows.set 0
      { WindowEntry.zero with
        active :=
          { WindowConfig.zero with valid := true, mask := topMask 16, sources := 0b01, portNumber := 1, permit := 0b111 } } }

/-- A request at the head of the ingress queue of Ux. -/
def headed (s : State) (x : UPort) (r : Request) : State := s.onUp x fun u => { u with ingress := [r] }

/-- A request of Ux that waits with this decode result. -/
def waitingAt (s : State) (x : UPort) (r : Request) (d : Decoded) : State :=
  s.onUp x fun u => { u with ingress := [r], waiting := some d }

/-- A RD of this tag, address and length. -/
def rd (tag : Tag) (addr : Addr) (len : BitVec 9) : Request := ⟨.rd, tag, addr, len, []⟩

/-- A PW of one byte at this address. -/
def pw (addr : Addr) : Request := ⟨.pw, 0, addr, 1, [7]⟩

/-- A WR of a register's word at an offset of the aperture of `running`. -/
def wr (off : Nat) (v : Word) : Request := ⟨.wr, 1, 0xFFFFFF020000#48 + BitVec.ofNat 48 off, 4, wordBytes v⟩

/-- `running` with a write at an offset of the aperture at the head of U0. -/
def writing (off : Nat) (v : Word) : State := headed running .u0 (wr off v)

/-- The entry of the RD of section 12.2 in this state, with RECEIVED. -/
def entry122 (state : EntryState) (received : Nat) : OttEntry :=
  { OttEntry.zero with
    state := state
    srcTag := 9
    egress := .d1
    xaddr := 0x3000
    len := 200
    received := received
    deadline := some 6000
    dispatchTime := 5000 }

/-- `running` at a TIME with entry 0 holding the RD of section 12.2. -/
def holding (time : Word) (state : EntryState) (received : Nat) : State :=
  ({ running with time := time } : State).onEntry 0 fun _ => entry122 state received

/-- A part of tag 0 with this status and LAST flag, of n zero bytes. -/
def part (status : Status) (last : Bool) (n : Nat) : Part := ⟨0, status, last, List.replicate n 0⟩

/-- The decode result of an address of window 0 of `running`. -/
def toD1 (addr : Addr) : Decoded := ⟨0, .d1, addr, .off⟩

/-! ### Well-formed commands -/

/-- A request whose bytes are not LEN many is refused (R18). -/
theorem test_wellFormed_request :
    (Instr.requestArrival .u0 ⟨.wr, 0, 0, 4, [1]⟩).wellFormed = false
      ∧ (Instr.requestArrival .u0 ⟨.wr, 0, 0, 4, [1, 2, 3, 4]⟩).wellFormed = true := by decide +kernel

/-- A COUNT of 0 or above 64 is refused on both sides (R18). -/
theorem test_wellFormed_cr :
    (Instr.upstreamCrArrival .u0 0).wellFormed = false ∧ (Instr.downstreamCrArrival .d0 65).wellFormed = false
      ∧ (Instr.upstreamCrArrival .u0 64).wellFormed = true ∧ (Instr.downstreamCrArrival .d0 1).wellFormed = true := by
  decide +kernel

/-- A part of more than 64 bytes is refused (R18). -/
theorem test_wellFormed_part :
    (Instr.partArrival .d0 (part .ok false 65)).wellFormed = false
      ∧ (Instr.partArrival .d0 (part .ok false 64)).wellFormed = true := by decide +kernel

/-- Bytes that spell a usable message are no damaged message (R18, R19): a CR of COUNT 1. -/
theorem test_wellFormed_damaged :
    (Instr.damagedMessageArrival (.up .u0) (some [5, 0, 1, 0])).wellFormed = false
      ∧ (Instr.damagedMessageArrival (.up .u0) (some [5, 0, 0, 0])).wellFormed = true
      ∧ (Instr.damagedMessageArrival (.up .u0) none).wellFormed = true := by decide +kernel

/-- A misdirected message is structurally usable (R20). -/
theorem test_wellFormed_misdirected :
    (Instr.misdirectedMessageArrival (.rspUpstream .u0 (part .ok true 65))).wellFormed = false
      ∧ (Instr.misdirectedMessageArrival (.requestDownstream .d0 ⟨.rd, 0, 0, 4, [1]⟩)).wellFormed = false
      ∧ (Instr.misdirectedMessageArrival (.requestDownstream .d0 (rd 0 0 4))).wellFormed = true := by decide +kernel

/-- A code that names a command is not unknown; a register with a row of its own is not SETTING_WRITE's (R184, R180). -/
theorem test_wellFormed_codes :
    (Instr.unknownCommand .u0 8).wellFormed = false ∧ (Instr.unknownCommand .u0 9).wellFormed = true
      ∧ (Instr.settingWrite .u0 .enable 0).wellFormed = false ∧ (Instr.settingWrite .u0 .id 0).wellFormed = false
      ∧ (Instr.settingWrite .u0 .noticePort 0).wellFormed = true := by decide +kernel

/-! ### Layouts -/

/-- The bytes of the RD of section 12.2 by section 11.1: KIND 1, TAG 9, LEN 200, then the address words. -/
theorem test_message_bytes :
    (Message.request (rd 9 0x3000 200)).toBytes = [0x01, 0x09, 0xC8, 0x00, 0x00, 0x30, 0, 0, 0, 0, 0, 0]
      ∧ Message.ofBytes [0x01, 0x09, 0xC8, 0x00, 0x00, 0x30, 0, 0, 0, 0, 0, 0] = some (.request (rd 9 0x3000 200)) := by
  decide +kernel

/-- Offsets that chapter 12 names, by the map of section 11.5. -/
theorem test_register_offsets :
    regAt 0x0488 = some (.down .d1 .rspTimeout) ∧ regAt 0x048C = some (.down .d1 .orphanLimit)
      ∧ regAt 0x101C = some (.control 0) ∧ regAt 0x1018 = some (.staging 0 .config) ∧ regAt 0x0844 = some .trigger
      ∧ regAt 0x089C = some (.head 7) ∧ regAt 0x0870 = some .release ∧ regAt 0x0428 = none := by decide +kernel

/-! ### Resets and link events -/

/-- 12.1: MSEL 2 puts the aperture at 0xFFFF_FF02_0000. -/
theorem test_powerOnReset_base :
    (nextOf (exec (.powerOnReset 2) running)).mgmtBase = 0xFFFFFF020000 := by decide +kernel

/-- R190: while RESET_N is asserted TIME stays 0. -/
theorem test_resetNAsserted_holds :
    (nextOf (exec .timeAdvance (nextOf (exec .resetNAsserted running)))).time = 0 := by decide +kernel

/-- 12.1: link-up of U0 owes 16 credits and sets LINK_CHANGE_U(0). -/
theorem test_upstreamLinkUp :
    ((nextOf (exec (.upstreamLinkUp .u0) (State.powerOn 2))).up.get .u0).pendingCredits = 16
      ∧ (nextOf (exec (.upstreamLinkUp .u0) (State.powerOn 2))).notice.cause = 0x1000 := by decide +kernel

/-- R90: an ISSUED entry of a departed requester is an orphan. -/
theorem test_upstreamLinkDown :
    ((nextOf (exec (.upstreamLinkDown .u0) (holding 5300 .issued 0))).entry 0).state = .orphan := by decide +kernel

/-- 12.1: link-up of D1 raises LINK_CHANGE(1), without credits. -/
theorem test_downstreamLinkUp :
    (nextOf (exec (.downstreamLinkUp .d1) (State.powerOn 2))).notice.cause = 0x20 := by decide +kernel

/-- R89: a link-down answers a live entry UNAVAILABLE and releases it. -/
theorem test_downstreamLinkDown :
    ((nextOf (exec (.downstreamLinkDown .d1) (holding 5300 .issued 0))).entry 0).state = .free
      ∧ ((nextOf (exec (.downstreamLinkDown .d1) (holding 5300 .issued 0))).up.get .u0).returnQueue =
        [⟨9, .unavailable, true, []⟩] := by decide +kernel

/-! ### Arrivals -/

/-- R46: a request at a full ingress queue is a protocol error. -/
theorem test_requestArrival_full :
    ((nextOf (exec (.requestArrival .u0 (rd 1 0 4))
      (running.onUp .u0 fun u => { u with ingress := List.replicate 16 (rd 0 0 4) }))).up.get .u0).counters.protocol = 1 := by
  decide +kernel

/-- 12.1: CR 4 from the requester. -/
theorem test_upstreamCrArrival :
    ((nextOf (exec (.upstreamCrArrival .u0 4) (nextOf (exec (.upstreamLinkUp .u0) State.reset)))).up.get .u0).credits = 4 := by
  decide +kernel

/-- 12.2: the third part at RECEIVED 128 leaves the entry STREAMING at 192. -/
theorem test_partArrival_streams :
    ((nextOf (exec (.partArrival .d1 (part .ok false 64)) (holding 5450 .streaming 128))).entry 0).state = .streaming
      ∧ ((nextOf (exec (.partArrival .d1 (part .ok false 64)) (holding 5450 .streaming 128))).entry 0).received = 192 := by
  decide +kernel

/-- 12.2: the LAST part of 8 bytes retires and releases the entry. -/
theorem test_partArrival_last :
    ((nextOf (exec (.partArrival .d1 (part .ok true 8)) (holding 5470 .streaming 192))).entry 0).state = .free
      ∧ ((nextOf (exec (.partArrival .d1 (part .ok true 8)) (holding 5470 .streaming 192))).up.get .u0).returnQueue =
        [⟨9, .ok, true, List.replicate 8 0⟩] := by decide +kernel

/-- 12.4: CR 32 to the fenced, retrained D1 is taken. -/
theorem test_downstreamCrArrival :
    ((nextOf (exec (.downstreamCrArrival .d1 32)
      (running.onDown .d1 fun d => { d with fenced := true, retrained := true, credits := 0 }))).down.get .d1).credits = 32 := by
  decide +kernel

/-- R138: with FENCE_LIMIT 8, the eighth damaged message in a row fences with reason DAMAGE. -/
theorem test_damagedMessageArrival :
    ((nextOf (exec (.damagedMessageArrival (.down .d1) none)
      (running.onDown .d1 fun d => { d with badRun := 7 }))).down.get .d1).reason = .damage := by decide +kernel

/-- R20: an RSP on U0 counts PROTOCOL. -/
theorem test_misdirectedMessageArrival :
    ((nextOf (exec (.misdirectedMessageArrival (.rspUpstream .u0 (part .ok true 4))) running)).up.get .u0).counters.protocol
      = 1 := by decide +kernel

/-! ### Dispatch and forwarding -/

/-- 12.1: a RD of ID is answered OK with 0xD5C8_2401. -/
theorem test_dispatch_id :
    ((nextOf (exec (.dispatch .u0) (headed running .u0 (rd 3 0xFFFFFF020000 4)))).up.get .u0).returnQueue =
      [⟨3, .ok, true, [0x01, 0x24, 0xC8, 0xD5]⟩] := by decide +kernel

/-- 12.5: with TRIGGER ANY_ERROR and CAP_DEFAULT ALL in ARMED, a no-hit RD triggers capture with POST_REMAIN 2. -/
theorem test_dispatch_triggers :
    let s := nextOf (exec (.dispatch .u0) ((headed running .u0 (rd 31 0x200000000 8)).onCapture fun c =>
      { c with state := .armed, trigger := .anyError, capDefault := .all, postCount := 2, nextRseq := 1 }))
    s.capture.state = .triggered ∧ s.capture.postRemain = 2
      ∧ s.capture.headWord 0 = 0x00050001 ∧ s.notice.cause = 0x410000 := by decide +kernel

/-- 12.2: the RD at TIME 5 000 takes entry 0 with DEADLINE 6 000 and four parts owed. -/
theorem test_forwarding :
    let s := nextOf (exec (.forwarding .u0) (headed { running with time := 5000 } .u0 (rd 9 0x3000 200)))
    s.entry 0 = entry122 .pending 0 ∧ s.returnLoad .u0 = 4 ∧ (s.down.get .d1).egress = [.entry 0 []]
      ∧ (s.up.get .u0).pendingCredits = 1 := by decide +kernel

/-! ### Transmission -/

/-- 12.2: the issue on D1 leaves 31 credits and sends the RD under tag 0. -/
theorem test_issue :
    let s := nextOf (exec (.issue .d1) ((holding 5000 .pending 0).onDown .d1 fun d => { d with egress := [.entry 0 []] }))
    (s.entry 0).state = .issued ∧ (s.down.get .d1).credits = 31
      ∧ s.outputs = [.message (.down .d1) (.request (rd 0 0x3000 200))] := by decide +kernel

/-- 12.1: the arbiter of U0 transmits CR 16. -/
theorem test_crTransmit :
    let s := nextOf (exec (.crTransmit .u0) (nextOf (exec (.upstreamLinkUp .u0) State.reset)))
    s.outputs = [.message (.up .u0) (.cr 16)] ∧ (s.up.get .u0).pendingCredits = 0 := by decide +kernel

/-- R121, R123: the head of the return queue goes out first. -/
theorem test_responsePartTransmit :
    (nextOf (exec (.responsePartTransmit .u0) (running.onUp .u0 fun u =>
      { u with returnQueue := [part .ok true 4, part .ok true 8] }))).outputs = [.message (.up .u0) (.rsp (part .ok true 4))] := by
  decide +kernel

/-- 12.1: the notice is a PW of LEN 8 with word 0 0x0000_0020 and SEQ 0, for one credit. -/
theorem test_noticeTransmit :
    let s := nextOf (exec (.noticeTransmit .u0) (running.onNotice fun u =>
      { u with state := .queued, cause := 0x1020, enable := 0x40FF, addr := 0x80000040 }))
    s.outputs = [.message (.up .u0) (.request ⟨.pw, 0, 0x80000040, 8, [0x20, 0, 0, 0, 0, 0, 0, 0]⟩)]
      ∧ (s.up.get .u0).credits = 3 ∧ s.notice.state = .sent ∧ s.notice.repeatDeadline = none := by decide +kernel

/-! ### Time -/

/-- 12.3: the expiry during streaming answers TIMEOUT and leaves an orphan without a deadline. -/
theorem test_expiry_streaming :
    let s := nextOf (exec (.expiry 0) (holding 6000 .streaming 128))
    (s.entry 0).state = .orphan ∧ (s.entry 0).deadline = none ∧ s.orphanCount .d1 = 1
      ∧ (s.up.get .u0).returnQueue = [⟨9, .timeout, true, []⟩] ∧ (s.down.get .d1).counters.timeouts = 1 := by decide +kernel

/-- 12.4 in small: at ORPHAN_LIMIT 1 the expiry of entry 0 fences D1, and entry 1 becomes an orphan in the same event. -/
theorem test_expiry_fences :
    let s := nextOf (exec (.expiry 0) (((holding 6000 .issued 0).onEntry 1 fun _ =>
      { entry122 .issued 0 with srcTag := 23 }).onDown .d1 fun d => { d with orphanLimit := 1 }))
    s.orphanCount .d1 = 2 ∧ (s.down.get .d1).reason = .orphans
      ∧ (s.up.get .u0).returnQueue = [⟨9, .timeout, true, []⟩, ⟨23, .unavailable, true, []⟩] := by decide +kernel

/-- A SENT notice whose repeat deadline of 1 ms has passed goes back to QUEUED with the mark (R173). -/
def sentNotice (time : Word) : State :=
  ({ running with time := time } : State).onNotice fun u =>
    { u with state := .sent, cause := 1, enable := 1, repeatMs := 1, repeatDeadline := some 1000 }

/-- R173: at its moment, not before it. -/
theorem test_repeatExpiry :
    (nextOf (exec .repeatExpiry (sentNotice 1000))).notice.state = .queued
      ∧ (nextOf (exec .repeatExpiry (sentNotice 999))).notice.state = .sent := by decide +kernel

/-- R98: TIME waits at 6000 for the expiry of the entry due there, and rises again after it. -/
theorem test_timeAdvance_waits :
    (nextOf (exec .timeAdvance (holding 6000 .issued 0))).time = 6000
      ∧ (nextOf (exec .timeAdvance (nextOf (exec (.expiry 0) (holding 6000 .issued 0))))).time = 6001 := by decide +kernel

/-- R108: a part that falls together with the deadline and is taken first is forwarded, and TIMEOUT is placed after it. -/
theorem test_partArrival_meets_deadline :
    let s := nextOf (exec (.partArrival .d1 (part .ok false 64)) (holding 6000 .streaming 64))
    (s.entry 0).state = .orphan ∧ (s.entry 0).received = 128 ∧ (s.down.get .d1).counters.timeouts = 1
      ∧ (s.up.get .u0).returnQueue = [⟨9, .ok, false, List.replicate 64 0⟩, ⟨9, .timeout, true, []⟩] := by decide +kernel

/-- TIME wraps at 2^32 (conventions of the introduction). -/
theorem test_timeAdvance_wraps :
    (nextOf (exec .timeAdvance { running with time := 0xFFFFFFFF })).time = 0 := by decide +kernel

/-! ### Management commands -/

/-- R187, R188: a soft reset forces D1 DOWN, answers OK and then UNAVAILABLE, and counts itself alone. -/
theorem test_softReset :
    let s := nextOf (exec (.softReset .u0) (headed (holding 5300 .issued 0) .u0 (wr 0x18 1)))
    (s.down.get .d1).link = .down ∧ (s.up.get .u0).returnQueue = [⟨1, .ok, true, []⟩, ⟨9, .unavailable, true, []⟩]
      ∧ (s.up.get .u0).counters.mgmtDone = 1 ∧ s.time = 0 ∧ s.mgmtBase = 0xFFFFFF020000 := by decide +kernel

/-- R140: FENCE(1) fences with reason MANAGEMENT. -/
theorem test_fenceCommand :
    ((nextOf (exec (.fenceCommand .u0 1) (writing 0x18 0x102))).down.get .d1).reason = .management := by decide +kernel

/-- 12.4: UNFENCE(1) before a RETRAIN is DENIED with NOT_RETRAINED. -/
theorem test_unfence :
    let s := nextOf (exec (.unfence .u0 1) ((writing 0x18 0x103).onDown .d1 fun d => { d with fenced := true }))
    s.command.outcome = .notRetrained ∧ (s.up.get .u0).returnQueue = [⟨1, .denied, true, []⟩] := by decide +kernel

/-- 12.4: RETRAIN(1) of a fenced port releases its orphans silently, sets RETRAINED and takes the credits. -/
theorem test_retrain :
    let s := nextOf (exec (.retrain .u0 1)
      ((headed (holding 7000 .orphan 0) .u0 (wr 0x18 0x104)).onDown .d1 fun d => { d with fenced := true }))
    (s.entry 0).state = .free ∧ (s.down.get .d1).retrained = true ∧ (s.down.get .d1).credits = 0
      ∧ (s.up.get .u0).returnQueue = [⟨1, .ok, true, []⟩] ∧ s.outputs = [.reestablish .d1] := by decide +kernel

/-- R186: MGMT_DONE counts the CLEAR_COUNTERS itself. -/
theorem test_clearCounters :
    ((nextOf (exec (.clearCounters .u0) ((writing 0x18 5).onUp .u0 fun u =>
      { u with counters := { u.counters with mgmtDone := 9, denied := 3 } }))).up.get .u0).counters
        = { UpCounters.zero with mgmtDone := 1 } := by decide +kernel

/-- 12.5: CAPTURE_ARM in OFF; the arming write fires no trigger. -/
theorem test_captureArm :
    (nextOf (exec (.captureArm .u0) ((writing 0x18 6).onCapture fun c => { c with trigger := .anyError }))).capture.state
      = .armed := by decide +kernel

/-- R162: CAPTURE_STOP in OFF is UNCHANGED. -/
theorem test_captureStop :
    (nextOf (exec (.captureStop .u0) (writing 0x18 7))).command.outcome = .unchanged := by decide +kernel

/-- R162: CAPTURE_CLEAR restarts the record numbers and keeps the state. -/
theorem test_captureClear :
    let s := nextOf (exec (.captureClear .u0) ((writing 0x18 8).onCapture fun c => { c with state := .frozen, nextRseq := 4 }))
    s.capture.nextRseq = 0 ∧ s.capture.state = .frozen := by decide +kernel

/-- R184: code 0x09 is UNKNOWN and DENIED. -/
theorem test_unknownCommand :
    let s := nextOf (exec (.unknownCommand .u0 9) (writing 0x18 9))
    s.command.outcome = .unknown ∧ s.notice.cause = 0x20000 := by decide +kernel

/-! ### Management writes -/

/-- 12.1: the staging record of window 0 at the write of 0x0700_0043 to its configuration word. -/
theorem test_settingWrite_config :
    ((nextOf (exec (.settingWrite .u0 (.staging 0 .config) 0x07000043) (writing 0x1018 0x07000043))).window 0).staging =
      { WindowConfig.zero with valid := true, sources := 0b01, targetKind := .port, portNumber := 1, permit := 0b111 } := by
  decide +kernel

/-- R96: RSP_TIMEOUT above 65 535 is DENIED. -/
theorem test_settingWrite_range :
    ((nextOf (exec (.settingWrite .u0 (.down .d1 .rspTimeout) 0x10000) (writing 0x0488 0x10000))).up.get .u0).returnQueue
      = [⟨1, .denied, true, []⟩] := by decide +kernel

/-- `running` with a staging record in window 1, whose control word is at 0x103C, and a write to it. -/
def staged (c : WindowConfig) (v : Word) : State := (writing 0x103C v).onWindow 1 fun e => { e with staging := c }

/-- The staging record of section 12.1. -/
def staging121 : WindowConfig :=
  { WindowConfig.zero with valid := true, mask := topMask 16, sources := 0b01, portNumber := 1, permit := 0b111 }

/-- 12.1: all seven checks pass; COMMIT_STATUS OK, HITS 0. -/
theorem test_commit_ok :
    (nextOf (exec (.commit .u0 1) (staged staging121 1))).window 1 = ⟨staging121, staging121, 0, .ok⟩ := by decide +kernel

/-- R34, R36: a record without sources is refused with NO_SOURCE. -/
theorem test_commit_refused :
    let s := nextOf (exec (.commit .u0 1) (staged { staging121 with sources := 0 } 1))
    (s.window 1).active.valid = false ∧ (s.window 1).status = .noSource ∧ s.notice.cause = 0x100000 := by decide +kernel

/-- R37: DISABLE clears VALID alone. -/
theorem test_disable :
    ((nextOf (exec (.disable .u0 0) (writing 0x101C 2))).window 0).active = { staging121 with valid := false } := by
  decide +kernel

/-- R43: the low word moves the aperture, with the pending upper half 0xFFFF. -/
theorem test_mgmtBaseLoWrite :
    (nextOf (exec (.mgmtBaseLoWrite .u0 0x10000) (writing 0x10 0x10000))).mgmtBase = 0xFFFF00010000 := by decide +kernel

/-- R71: with RESERVE_U1 at 8, 56 is taken and 57 is refused. -/
theorem test_reserveWrite :
    ((nextOf (exec (.reserveWrite .u0 .u0 56) (writing 0x208 56))).up.get .u0).reserve = 56
      ∧ ((nextOf (exec (.reserveWrite .u0 .u0 57) (writing 0x208 57))).up.get .u0).reserve = 8 := by decide +kernel

/-- R105, R106: a limit of 1 with one orphan fences the port. -/
theorem test_orphanLimitWrite :
    ((nextOf (exec (.orphanLimitWrite .u0 .d1 1) (headed (holding 7000 .orphan 0) .u0 (wr 0x048C 1)))).down.get .d1).reason
      = .orphans := by decide +kernel

/-- 12.1: ENABLE 0x0000_40FF with LINK_CHANGE_U(0) set leaves the unit IDLE. -/
theorem test_enableWrite :
    let s := nextOf (exec (.enableWrite .u0 0x40FF) ((writing 0x104 0x40FF).onNotice fun u => { u with cause := 0x1000 }))
    s.notice.enable = 0x40FF ∧ s.notice.active = 0 ∧ s.notice.state = .idle := by decide +kernel

/-- 12.1: CLEAR 0x0000_0020 removes LINK_CHANGE(1). -/
theorem test_clearWrite :
    (nextOf (exec (.clearWrite .u0 0x20) ((writing 0x10C 0x20).onNotice fun u => { u with cause := 0x1020 }))).notice.cause
      = 0x1000 := by decide +kernel

/-- 12.1: NOTICE_ACK 0 leaves the unit IDLE with SEQ 1. -/
theorem test_noticeAck :
    let s := nextOf (exec (.noticeAck .u0 0) ((writing 0x110 0).onNotice fun u => { u with state := .sent }))
    s.notice.state = .idle ∧ s.notice.seq = 1 := by decide +kernel

/-- A record of the capture buffer. -/
def record (rseq : BitVec 16) : Record := ⟨rseq, false, 0, .completion .u0 30 0 .ok 64 150⟩

/-- R161: RELEASE removes the oldest record. -/
theorem test_captureRelease :
    (nextOf (exec (.captureRelease .u0) ((writing 0x870 0).onCapture fun c =>
      { c with buffer := [record 0, record 1], nextRseq := 2 }))).capture.buffer = [record 1] := by decide +kernel

/-! ### Witnesses: states and operands that meet the hypotheses of each obligation -/

/-- For StepRunsTheFrontCommand: a state with an empty queue. -/
theorem witness_StepRunsTheFrontCommand : State.reset.pending = [] := rfl

/-- For AssertedResetHoldsTheBridge: a held state and a command that is no reset. -/
theorem witness_AssertedResetHoldsTheBridge :
    ({ running with held := true } : State).held = true ∧ (∀ msel, Instr.timeAdvance ≠ .powerOnReset msel)
      ∧ Instr.timeAdvance ≠ .resetNAsserted :=
  ⟨rfl, fun _ h => (by cases h), fun h => (by cases h)⟩

/-- D1 with an ORPHAN_LIMIT of 1, entry 0 of U0 in flight and entry 1 of U1 in this state. -/
def shared (state : EntryState) : State :=
  ((holding 5300 .issued 0).onEntry 1 fun _ => { entry122 state 0 with src := .u1 }).onDown .d1 fun d => { d with orphanLimit := 1 }

/-- For UpstreamLinkDownEndsThePort: a DOWN and an UP port, entries of the port in every state, an unfenced port, an entry that
is live after the other port's link-down; a fence that reaches the entries of the other port, and one port that it leaves; a lost
waiting head with no fence and no head on the other port. -/
theorem witness_UpstreamLinkDownEndsThePort :
    (State.powerOn 2).held = false ∧ ((State.powerOn 2).up.get .u0).link = .down
      ∧ running.held = false ∧ (running.up.get .u0).link = .up
      ∧ (∀ st ∈ [EntryState.pending, .issued, .streaming, .orphan, .free],
          ((holding 5000 st 0).entry 0).src = .u0 ∧ ((holding 5000 st 0).entry 0).state = st)
      ∧ (running.down.get .d1).fenced = false
      ∧ ((nextOf (exec (.upstreamLinkDown .u1) (holding 5000 .issued 0))).entry 0).state.live = true
      ∧ (∀ st ∈ [EntryState.pending, .issued, .streaming, .orphan, .free],
          ((shared st).entry 1).src = .u1 ∧ ((shared st).entry 1).state = st ∧ ((shared st).down.get .d1).fenced = false
            ∧ ((nextOf (exec (.upstreamLinkDown .u0) (shared st))).down.get .d1).fenced = true)
      ∧ (waitingAt running .u0 (rd 8 0x40 4) (toD1 0x40)).waitingHead .u0 = some (rd 8 0x40 4, toD1 0x40)
      ∧ (waitingAt running .u0 (rd 8 0x40 4) (toD1 0x40)).waitingHead .u1 = none
      ∧ (∀ n ∈ DPort.all,
          ((nextOf (exec (.upstreamLinkDown .u0) (waitingAt running .u0 (rd 8 0x40 4) (toD1 0x40)))).down.get n).fenced
            = (running.down.get n).fenced) := by decide +kernel

/-- For LinkUpStartsThePort: DOWN ports and UP ports of a bridge that runs. -/
theorem witness_LinkUpStartsThePort :
    (State.powerOn 2).held = false ∧ ((State.powerOn 2).down.get .d1).link = .down ∧ running.held = false
      ∧ (running.down.get .d1).link = .up := by decide +kernel

/-- A head of U0 that waits for D1, behind 575 parts, with the RD of section 12.2 in entry 0. -/
def crowded : State :=
  (waitingAt (holding 5300 .issued 0) .u0 (pw 0x40) (toD1 0x40)).onUp .u0 fun u =>
    { u with returnQueue := List.replicate 575 (part .ok true 0) }

/-- For DownstreamLinkDownEmptiesPort and FenceTakesThePortOutOfService: return queues that the parts just fill, a head that
waits for the port, one that does not, a degraded port, a fenced and an unfenced port. -/
theorem witness_DownstreamLinkDownEmptiesPort :
    crowded.held = false
      ∧ (crowded.up.get .u0).returnQueue.length + (crowded.unavailableParts .d1 .u0).length = 576
      ∧ crowded.waitingHead .u0 = some (pw 0x40, toD1 0x40) ∧ (toD1 0x40).egress = .d1
      ∧ crowded.waitsFor .u1 .d1 = false ∧ crowded.waitsFor .u0 .d0 = false
      ∧ ((crowded.onDown .d1 fun d => { d with degraded := true }).down.get .d1).degraded = true := by decide +kernel

/-- For FenceTakesThePortOutOfService: a fenced and an unfenced port, beside the witness of the link-down. -/
theorem witness_FenceTakesThePortOutOfService :
    ((crowded.onDown .d1 fun d => { d with fenced := true }).down.get .d1).fenced = true
      ∧ (crowded.down.get .d1).fenced = false
      ∧ (crowded.up.get .u0).returnQueue.length + (crowded.unavailableParts .d1 .u0).length ≤ 576
      ∧ crowded.waitingHead .u0 = some (pw 0x40, toD1 0x40) ∧ (toD1 0x40).egress = .d1
      ∧ crowded.waitsFor .u1 .d1 = false := by decide +kernel

/-- For UpstreamArrivalsAreQueuedOrCounted: an UP port of a bridge that runs. -/
theorem witness_UpstreamArrivalsAreQueuedOrCounted :
    running.held = false ∧ (running.up.get .u0).link = .up ∧ (running.up.get .u1).link = .up := by decide +kernel

/-- For StrayPartIsDiscarded: tag 128, a FREE entry, a PENDING entry and an entry of another port. -/
theorem witness_StrayPartIsDiscarded :
    running.held = false ∧ (running.down.get .d1).link = .up ∧ (part .ok true 64).data.length ≤ 64
      ∧ 128 ≤ (128#8 : Tag).toNat ∧ (part .ok true 64).tag.toNat = (0 : Fin 128).val ∧ (running.entry 0).state = .free
      ∧ ((holding 5000 .pending 0).entry 0).state = .pending ∧ ((holding 5000 .issued 0).entry 0).egress ≠ .d0 := by
  decide +kernel

/-- For LatePartReleasesTheOrphanAtLast: an orphan and a part under its tag. -/
theorem witness_LatePartReleasesTheOrphanAtLast :
    (holding 7000 .orphan 0).held = false ∧ ((holding 7000 .orphan 0).down.get .d1).link = .up
      ∧ (part .ok true 64).data.length ≤ 64 ∧ (part .ok true 64).tag.toNat = (0 : Fin 128).val
      ∧ ((holding 7000 .orphan 0).entry 0).state = .orphan ∧ ((holding 7000 .orphan 0).entry 0).egress = .d1 := by
  decide +kernel

/-- Entry 0 as a WR of 4 bytes. -/
def holdingWr (state : EntryState) : State :=
  (holding 5300 state 0).onEntry 0 fun e => { e with kind := .wr, len := 4 }

/-- For EarlyEndingPartRetiresTheRequest: a status that is not OK; a RD part that is not LAST at the last byte, one that is LAST
before it, and a WR part with data. -/
theorem witness_EarlyEndingPartRetiresTheRequest :
    (holding 5300 .streaming 136).held = false ∧ ((holding 5300 .streaming 136).down.get .d1).link = .up
      ∧ (part .targetError true 0).tag.toNat = (0 : Fin 128).val ∧ (part .targetError true 0).status ≠ .ok
      ∧ ((holding 5300 .streaming 136).entry 0).state = .streaming ∧ ((holding 5300 .streaming 136).entry 0).egress = .d1
      ∧ ((holding 5300 .streaming 136).entry 0).kind = .rd
      ∧ ¬ ((part .ok false 64).data.length = 64
          ∧ ((holding 5300 .streaming 136).entry 0).received + 64 < ((holding 5300 .streaming 136).entry 0).len)
      ∧ ¬ (1 ≤ (part .ok true 63).data.length
          ∧ ((holding 5300 .streaming 136).entry 0).received + (part .ok true 63).data.length
            = ((holding 5300 .streaming 136).entry 0).len)
      ∧ ((holdingWr .issued).entry 0).kind = .wr ∧ ((holdingWr .issued).entry 0).state = .issued
      ∧ ¬ ((part .ok true 1).last = true ∧ (part .ok true 1).data = []) := by decide +kernel

/-- For ConformingPartIsForwarded: a RD part that leaves one byte, one that brings the last byte, and the answer to a WR; before
the deadline and at it. -/
theorem witness_ConformingPartIsForwarded :
    (holding 5300 .streaming 135).held = false ∧ ((holding 5300 .streaming 135).down.get .d1).link = .up
      ∧ ((holding 5300 .streaming 135).entry 0).kind = .rd ∧ (part .ok false 64).data.length = 64
      ∧ ((holding 5300 .streaming 135).entry 0).received + 64 < ((holding 5300 .streaming 135).entry 0).len
      ∧ ((holding 5300 .streaming 199).entry 0).received + (part .ok true 1).data.length
        = ((holding 5300 .streaming 199).entry 0).len
      ∧ ((holdingWr .issued).entry 0).kind = .wr ∧ (part .ok true 0).data = []
      ∧ ((holding 5300 .streaming 135).entry 0).deadline ≠ some (holding 5300 .streaming 135).time
      ∧ ((holding 6000 .streaming 135).entry 0).deadline = some (holding 6000 .streaming 135).time := by decide +kernel

/-- D1 with these flags and this many credits. -/
def credited (fenced retrained : Bool) (credits : Nat) : State :=
  running.onDown .d1 fun d => { d with fenced := fenced, retrained := retrained, credits := credits }

/-- For DownstreamCrFollowsTheFence: a CR of 32 that just fits or just does not, in each state of the fence. -/
theorem witness_DownstreamCrFollowsTheFence :
    1 ≤ (32#7).toNat ∧ (32#7).toNat ≤ 64
      ∧ (∀ f ∈ [false, true], ∀ r ∈ [false, true], ∀ c ∈ [32, 33],
        (credited f r c).held = false ∧ ((credited f r c).down.get .d1).link = .up
          ∧ ((credited f r c).down.get .d1).fenced = f ∧ ((credited f r c).down.get .d1).retrained = r)
      ∧ ((credited false false 32).down.get .d1).credits + (32#7).toNat ≤ 64
      ∧ 64 < ((credited false false 33).down.get .d1).credits + (32#7).toNat
      ∧ ((credited true true 32).down.get .d1).credits + (32#7).toNat ≤ 64
      ∧ 64 < ((credited true true 33).down.get .d1).credits + (32#7).toNat := by decide +kernel

/-- For GoodDamagedAndMisdirectedMessagesCount: a report, and the bytes of a CR of COUNT 0. -/
theorem witness_GoodDamagedAndMisdirectedMessagesCount :
    running.held = false ∧ (Option.none : Option (List Byte)).bind Message.ofBytes = none
      ∧ (some [5, 0, 0, 0] : Option (List Byte)).bind Message.ofBytes = none
      ∧ (running.up.get .u0).link = .up ∧ (running.down.get .d1).link = .up := by decide +kernel

/-- For GoodDamagedAndMisdirectedMessagesCount, the last clause: a part of 64 bytes, and a RD. -/
theorem witness_misdirected :
    running.held = false ∧ (running.up.get .u0).link = .up ∧ (part .ok true 64).data.length ≤ 64
      ∧ (running.down.get .d0).link = .up
      ∧ (rd 0 0 4).data.length = (if (rd 0 0 4).kind = .rd then 0 else (rd 0 0 4).len.toNat) := by decide +kernel

/-- A capture unit in this state and mode with a buffer of n records. -/
def capturing (state : CaptureState) (mode : OverflowMode) (n : Nat) : State :=
  running.onCapture fun c => { c with state := state, mode := mode, buffer := List.replicate n (record 0), postRemain := 1 }

/-- For CausesPartsAndResolvedHeads: the parts of a local answer where they fill the return queue exactly. -/
theorem witness_CausesPartsAndResolvedHeads :
    let s := running.onUp .u0 fun u => { u with returnQueue := List.replicate 574 (part .ok true 0) }
    (s.up.get .u0).returnQueue.length + [part .ok false 64, part .ok true 1].length = 576 := by decide +kernel

/-- For HandingsFollowTheCaptureState: a buffer with room for one record, a full one in each mode, and every capture state. -/
theorem witness_HandingsFollowTheCaptureState :
    (capturing .armed .stop 255).capture.buffer.length < 256 ∧ 256 ≤ (capturing .triggered .stop 256).capture.buffer.length
      ∧ (capturing .triggered .stop 256).capture.mode = .stop ∧ 256 ≤ (capturing .armed .ring 256).capture.buffer.length
      ∧ (capturing .armed .ring 256).capture.mode = .ring ∧ (capturing .off .stop 0).capture.state = .off
      ∧ (capturing .frozen .stop 0).capture.state = .frozen ∧ (capturing .armed .stop 255).capture.state = .armed
      ∧ (capturing .triggered .stop 255).capture.state = .triggered
      ∧ (capturing .triggered .stop 255).capture.postRemain - 1 = 0
      ∧ (running.onCapture fun c => { c with postCount := 0 }).capture.postCount = 0 := by decide +kernel

/-- For RequestHandingsAreMatchedAndRecorded: RDs of window 3 in its mode FILTERED under A_ONLY, where unit A wants RDs of U0, and
the modes of the other codes (R147, R148). -/
theorem witness_RequestHandingsAreMatchedAndRecorded :
    let c : Capture :=
      { running.capture with unitA := { running.capture.unitA with kindSet := 1, portSet := 1 }, capMgmt := .all, combine := .aOnly }
    let handing (x : UPort) (code : WindowCode) : Handing := ⟨x, rd 8 0x40 4, code, .forwarded, none⟩
    c.candidate (handing .u0 (.window 3 .filtered)) = true ∧ c.candidate (handing .u1 (.window 3 .filtered)) = false
      ∧ c.candidate (handing .u1 (.window 3 .all)) = true ∧ c.candidate (handing .u1 .mgmt) = true
      ∧ c.candidate (handing .u0 .noHit) = false ∧ c.candidate (handing .u0 .undecoded) = false := by decide +kernel

/-- For HeadsRefusedBeforeDecode: a head whose tag a live entry holds, and a head of LEN 0 that no live entry shadows. -/
theorem witness_HeadsRefusedBeforeDecode :
    (headed (holding 5300 .issued 0) .u0 (rd 9 0x3000 4)).held = false
      ∧ (headed (holding 5300 .issued 0) .u0 (rd 9 0x3000 4)).undecodedHead .u0 = some (rd 9 0x3000 4)
      ∧ (rd 9 0x3000 4).kind ≠ .pw ∧ ((headed (holding 5300 .issued 0) .u0 (rd 9 0x3000 4)).entry 0).state.live = true
      ∧ ((headed (holding 5300 .issued 0) .u0 (rd 9 0x3000 4)).entry 0).src = .u0
      ∧ ((headed (holding 5300 .issued 0) .u0 (rd 9 0x3000 4)).entry 0).srcTag = (rd 9 0x3000 4).tag
      ∧ (headed running .u0 (rd 9 0 0)).undecodedHead .u0 = some (rd 9 0 0) ∧ (rd 9 0 0).wellFormed = false
      ∧ (∀ k, ((headed running .u0 (rd 9 0 0)).entry k).state.live = true →
          ((headed running .u0 (rd 9 0 0)).entry k).src = .u0 → ((headed running .u0 (rd 9 0 0)).entry k).srcTag ≠ 9) := by
  decide +kernel

/-- A head of the aperture of `running`. -/
def atAperture (r : Request) : State := headed running .u0 r

/-- For ManagementAccessIsRefusedOrRead: a port without permission; LEN 3; offset 2; an unassigned offset; a write of ID; a
read of ID. -/
theorem witness_ManagementAccessIsRefusedOrRead :
    (headed running .u1 (rd 1 0xFFFFFF020000 4)).Presents .u1 (rd 1 0xFFFFFF020000 4)
      ∧ (rd 1 0xFFFFFF020000 4).addr &&& 0xFFFFFFFF0000#48 = running.mgmtBase
      ∧ running.mgmtPermit.getLsbD UPort.u1.code = false ∧ running.mgmtPermit.getLsbD UPort.u0.code = true
      ∧ (atAperture (rd 1 0xFFFFFF020000 3)).Presents .u0 (rd 1 0xFFFFFF020000 3) ∧ (rd 1 0xFFFFFF020000 3).len.toNat ≠ 4
      ∧ (atAperture (rd 1 0xFFFFFF020002 4)).Presents .u0 (rd 1 0xFFFFFF020002 4)
      ∧ ((rd 1 0xFFFFFF020002 4).addr - running.mgmtBase).toNat % 4 ≠ 0
      ∧ (atAperture (rd 1 0xFFFFFF020020 4)).Presents .u0 (rd 1 0xFFFFFF020020 4)
      ∧ regAt ((rd 1 0xFFFFFF020020 4).addr - running.mgmtBase).toNat = none
      ∧ (atAperture (wr 0 5)).Presents .u0 (wr 0 5) ∧ regAt ((wr 0 5).addr - running.mgmtBase).toNat = some .id
      ∧ (wr 0 5).kind ≠ .rd ∧ Reg.id.writable = false
      ∧ (atAperture (rd 1 0xFFFFFF020000 4)).PresentsAccess .u0 (rd 1 0xFFFFFF020000 4) .id := by
  unfold State.PresentsAccess State.Presents
  decide +kernel

/-- For SettingsAndStatusReadTheirFields: POST_REMAIN of 255 and a full buffer. -/
theorem witness_SettingsAndStatusReadTheirFields :
    let s := (capturing .triggered .ring 256).onCapture fun c => { c with postRemain := 255 }
    s.capture.postRemain ≤ 255 ∧ s.capture.buffer.length ≤ 256
      ∧ s.readReg .captureStatus = 2 + 255 * 0x100 + 256 * 0x10000 := by decide +kernel

/-- For ViewsReadTheirFields: the word 0 of section 11.4's example, an entry of 256 bytes, and records of both kinds. -/
theorem witness_ViewsReadTheirFields :
    let s := (holding 41000 .orphan 128).onEntry 11 fun _ =>
      { entry122 .orphan 128 with srcTag := 5, deadline := none, dispatchTime := 40000 }
    let full := (holding 5300 .issued 0).onEntry 0 fun e => { e with len := 256, received := 256 }
    s.readReg (.ottView 11 0) = 0x050108C8 ∧ (s.entry 11).len ≤ 256 ∧ (s.entry 11).received ≤ 256
      ∧ (full.entry 0).len = 256 ∧ (full.entry 0).received = 256
      ∧ running.capture.buffer = [] ∧ (capturing .armed .stop 1).capture.buffer = [record 0]
      ∧ (∃ port tag ott status latency, (⟨0, false, 0, .completion port tag ott status 256 latency⟩ : Record).body
          = .completion .u0 0 0 .ok 256 0) :=
  ⟨by decide +kernel, by decide +kernel, by decide +kernel, by decide +kernel, by decide +kernel, by decide +kernel,
    by decide +kernel, .u0, 0, 0, .ok, 0, rfl⟩

/-- The writes that the witnesses below put at the head of U0: offset, value, register. -/
def someWrites : List (Nat × Word × Reg) :=
  [(0x18, 1, .command), (0x18, 0x302, .command), (0x18, 0x103, .command), (0x18, 0x004, .command), (0x18, 5, .command),
   (0x18, 6, .command), (0x18, 7, .command), (0x18, 8, .command), (0x18, 0, .command), (0x18, 9, .command),
   (0x18, 0x402, .command), (0x18, 0xFF03, .command), (0x18, 0x404, .command), (0x103C, 1, .control 1), (0x103C, 2, .control 1),
   (0x10, 0x10000, .mgmtBaseLo), (0x10, 0x10001, .mgmtBaseLo), (0x208, 56, .up .u0 .reserve), (0x208, 57, .up .u0 .reserve),
   (0x48C, 0, .down .d1 .orphanLimit), (0x48C, 1, .down .d1 .orphanLimit), (0x48C, 32, .down .d1 .orphanLimit),
   (0x48C, 33, .down .d1 .orphanLimit), (0x104, 0xFFFFFFFF, .enable), (0x10C, 0x20, .clear), (0x110, 0, .noticeAck),
   (0x870, 77, .release)]

/-- For DispatchOfAWriteIsItsRow and the statements about single rows of management writes: every such head is one that step 4
lets through, and it names a row. -/
theorem witness_DispatchOfAWriteIsItsRow :
    ∀ w ∈ someWrites, (writing w.1 w.2.1).PresentsWrite .u0 (wr w.1 w.2.1) w.2.2 w.2.1
      ∧ (rowOfWrite .u0 w.2.2 w.2.1).isSome = true := by
  unfold State.PresentsWrite State.PresentsAccess State.Presents
  decide +kernel

/-- A window of each target kind that passes the commit checks, at the boundaries of the selecting bits. -/
def checkedWindow (kind : TargetKind) (set : BitVec 4) (select : BitVec 6) : WindowConfig :=
  { staging121 with base := 0x00F000000000, mask := topMask 36, xbase := 0x123456789000, targetKind := kind, spreadSet := set,
                    select := select }

/-- For ValidWindowTranslatesAndSpreads: PORT, a pair selected by bit 11, four ports selected by bits 8 and 9. -/
theorem witness_ValidWindowTranslatesAndSpreads :
    commitCheck (checkedWindow .port 0 0) = .ok ∧ commitCheck (checkedWindow .spread 0b1010 11) = .ok
      ∧ commitCheck (checkedWindow .spread 0b1111 8) = .ok ∧ spreadMembers (0b1010#4) = [.d1, .d3]
      ∧ (0x00F000000FFF#48 &&& (checkedWindow .port 0 0).mask) = (checkedWindow .port 0 0).base
      ∧ (checkedWindow .port 0 0).targetKind ≠ .refuse := by decide +kernel

/-- Window 0 of `running` with another target kind and permission, and a RD at its head. -/
def windowed (kind : TargetKind) (permit : BitVec 3) : State :=
  (headed running .u0 (rd 3 0x3000 4)).onWindow 0 fun e => { e with active := { e.active with targetKind := kind, permit := permit } }

/-- For WindowRefusesOrPortIsUnavailable: a REFUSE window, one without RD, and one whose port is fenced. -/
theorem witness_WindowRefusesOrPortIsUnavailable :
    (windowed .refuse 0).PresentsOutside .u0 (rd 3 0x3000 4) ∧ (windowed .refuse 0).windowSearch .u0 0x3000 = some 0
      ∧ ((windowed .refuse 0).window 0).active.targetKind = .refuse
      ∧ (windowed .port 0b110).PresentsOutside .u0 (rd 3 0x3000 4) ∧ (windowed .port 0b110).windowSearch .u0 0x3000 = some 0
      ∧ ((windowed .port 0b110).window 0).active.permit.getLsbD ReqKind.rd.code = false
      ∧ ((windowed .port 1).onDown .d1 fun d => { d with fenced := true }).PresentsOutside .u0 (rd 3 0x3000 4)
      ∧ ((windowed .port 1).onDown .d1 fun d => { d with fenced := true }).windowSearch .u0 0x3000 = some 0
      ∧ ((windowed .port 1).window 0).active.permit.getLsbD ReqKind.rd.code = true
      ∧ ((windowed .port 1).onDown .d1 fun d => { d with fenced := true }).available
          (((windowed .port 1).window 0).active.egressPort 0x3000) = false := by
  unfold State.PresentsOutside State.Presents
  decide +kernel

/-- For NoHitTakesTheDefaultAction: heads of LEN 1 and 256 with no hit, a PW, both default actions, and room for four parts. -/
theorem witness_NoHitTakesTheDefaultAction :
    (∀ r ∈ [rd 1 0x200000000 1, rd 1 0x200000000 256, pw 0x200000000],
      (headed running .u0 r).PresentsOutside .u0 r ∧ (headed running .u0 r).windowSearch .u0 r.addr = none)
      ∧ (running.up.get .u0).defaultAction = .unmappedError
      ∧ ((running.onUp .u0 fun u => { u with defaultAction := .zeroFill }).up.get .u0).defaultAction = .zeroFill
      ∧ (rd 1 0x200000000 1).kind = .rd ∧ (pw 0x200000000).kind ≠ .rd
      ∧ (running.up.get .u0).returnQueue.length + 4 ≤ 576 := by
  unfold State.PresentsOutside State.Presents
  decide +kernel

/-- For ForwardDecodeMeetsTheAllocationEvent and ForwardingTakesEntryAndSlot: heads that decode to D1, RD and PW, with entry 0
FREE, and a head that waits. -/
theorem witness_ForwardDecodeMeetsTheAllocationEvent :
    (∀ r ∈ [rd 9 0x3000 200, pw 0xFFFFFFFF],
      (headed running .u0 r).PresentsOutside .u0 r ∧ (headed running .u0 r).windowSearch .u0 r.addr = some 0
        ∧ ((headed running .u0 r).window 0).active.targetKind ≠ .refuse
        ∧ ((headed running .u0 r).window 0).active.permit.getLsbD r.kind.code = true
        ∧ (headed running .u0 r).available (((headed running .u0 r).window 0).active.egressPort r.addr) = true)
      ∧ (waitingAt running .u0 (rd 9 0x3000 200) (toD1 0x3000)).held = false
      ∧ (waitingAt running .u0 (rd 9 0x3000 200) (toD1 0x3000)).waitingHead .u0 = some (rd 9 0x3000 200, toD1 0x3000) := by
  unfold State.PresentsOutside State.Presents
  decide +kernel

/-- For ForwardingTakesEntryAndSlot: a waiting and a freshly decoded head, one slot left, entry 1 the lowest FREE one. -/
theorem witness_ForwardingTakesEntryAndSlot :
    let s := (waitingAt (holding 5300 .issued 0) .u0 (rd 8 0x40 4) (toD1 0x40)).onDown .d1 fun d =>
      { d with egress := List.replicate 31 (.posted 0 1 [7]) }
    let s' := (headed running .u0 (rd 9 0x3000 200)).decodedForward .u0 (rd 9 0x3000 200) 0
    s.held = false ∧ s.waitingHead .u0 = some (rd 8 0x40 4, toD1 0x40) ∧ s.available .d1 = true
      ∧ (s.down.get .d1).egress.length < 32 ∧ s.wantsSlot .u1 = none ∧ (rd 8 0x40 4).kind.answered = some .rd
      ∧ s.eligible .u0 = true ∧ (s.entry 1).state = .free ∧ (∀ j, j < 1 → (s.entry j).state ≠ .free) ∧ (pw 0).kind = .pw
      ∧ toD1 0x3000 = (headed running .u0 (rd 9 0x3000 200)).decodeResult (rd 9 0x3000 200) 0
      ∧ s'.available .d1 = true ∧ s'.wantsSlot .u1 = none ∧ s'.eligible .u0 = true ∧ (s'.entry 0).state = .free := by
  decide +kernel

/-- Both heads wait for D1, with n items in its queue and the arbiters' records at U1. -/
def contending (n : Nat) : State :=
  (waitingAt (waitingAt running .u0 (rd 8 0x40 4) (toD1 0x40)) .u1 (rd 8 0x80 4) (toD1 0x80)).onDown .d1 fun d =>
    { d with egress := List.replicate n (.posted 0 1 [7]) }

/-- For WaitingHeadsAndContention: no head wants anything; both want the last slot. -/
theorem witness_WaitingHeadsAndContention :
    (∀ x ∈ [UPort.u0, .u1], running.wantsSlot x = none)
      ∧ (contending 31).waitingHead .u0 = some (rd 8 0x40 4, toD1 0x40)
      ∧ (contending 31).waitingHead .u1 = some (rd 8 0x80 4, toD1 0x80)
      ∧ (contending 31).wantsSlot .u0 = some .d1 ∧ (contending 31).wantsSlot .u1 = some .d1
      ∧ ((contending 31).down.get .d1).egress.length = 31 ∧ ((contending 31).down.get .d1).admission = .u1 := by
  decide +kernel

/-- For WaitingHeadsAndContention: both want the last entry, with two slots free and reserves of 0. -/
theorem witness_contention_entry :
    let s : State :=
      { contending 30 with
        ott := (Vector.replicate 128 (entry122 .issued 0)).set 5 OttEntry.zero
        up := (contending 30).up.map fun u => { u with reserve := 0 } }
    s.waitingHead .u0 = some (rd 8 0x40 4, toD1 0x40) ∧ s.waitingHead .u1 = some (rd 8 0x80 4, toD1 0x80)
      ∧ s.wantsSlot .u0 = some .d1 ∧ s.wantsSlot .u1 = some .d1 ∧ (rd 8 0x40 4).kind ≠ .pw ∧ s.freeEntries = 1
      ∧ (s.down.get .d1).egress.length < 31 ∧ s.lastGrant = .u1 := by decide +kernel

/-- For AllocationForwardsBothHeads: two RDs of one queue with two slots left, and with two entries FREE; a RD beside a PW; heads
of two queues. -/
theorem witness_AllocationForwardsBothHeads :
    let s : State := { contending 30 with ott := ((Vector.replicate 128 (entry122 .issued 0)).set 5 OttEntry.zero).set 9 OttEntry.zero
                                          up := (contending 30).up.map fun u => { u with reserve := 0 } }
    let s' := waitingAt (contending 31) .u1 (pw 0x80) ⟨0, .d2, 0x80, .off⟩
    s.waitingHead .u0 = some (rd 8 0x40 4, toD1 0x40) ∧ s.waitingHead .u1 = some (rd 8 0x80 4, toD1 0x80) ∧ s.lastGrant = .u1
      ∧ s.wantsSlot .u0 = some .d1 ∧ s.wantsSlot .u1 = some .d1 ∧ (s.down.get .d1).egress.length ≤ 30
      ∧ s.Takes (rd 8 0x40 4) none (.entry 5) ∧ s.Takes (rd 8 0x80 4) (some (.entry 5)) (.entry 9)
      ∧ s'.waitingHead .u1 = some (pw 0x80, ⟨0, .d2, 0x80, .off⟩) ∧ s'.wantsSlot .u0 = some .d1 ∧ s'.wantsSlot .u1 = some .d2
      ∧ s'.Takes (rd 8 0x40 4) none (.entry 0) ∧ s'.Takes (pw 0x80) (some (.entry 0)) .slot := by
  unfold State.Takes
  decide +kernel

/-- For IssueTransmitsTheHeadItem: a fenced port, a port without credits, an empty queue; a PW item and the item of entry 0 with
the last credit. -/
theorem witness_IssueTransmitsTheHeadItem :
    running.held = false ∧ (credited true false 1).available .d1 = false ∧ ((credited false false 0).down.get .d1).credits = 0
      ∧ (running.down.get .d1).egress = [] ∧ (credited false false 1).available .d1 = true
      ∧ 1 ≤ ((credited false false 1).down.get .d1).credits
      ∧ ((running.onDown .d1 fun d => { d with egress := [.posted 0x40 1 [7]] }).down.get .d1).egress = [.posted 0x40 1 [7]]
      ∧ ((running.onDown .d1 fun d => { d with egress := [.entry 0 []] }).down.get .d1).egress = [.entry 0 []] := by
  decide +kernel

/-- For CrAndPartTransmitFollowTheArbiter: a part waits while no credit is owed, and while the return load is 513. -/
theorem witness_CrAndPartTransmitFollowTheArbiter :
    let s := running.onUp .u0 fun u => { u with returnQueue := [part .ok true 4] }
    let s' := running.onUp .u0 fun u => { u with returnQueue := List.replicate 513 (part .ok true 4), pendingCredits := 1 }
    s.held = false ∧ (s.up.get .u0).link = .up ∧ (s.up.get .u0).returnQueue = [part .ok true 4]
      ∧ (s.up.get .u0).pendingCredits.toNat = 0 ∧ 512 < (s'.up.get .u0).returnQueue.length + s'.owedTo .u0
      ∧ (∀ st ∈ [EntryState.pending, .issued, .streaming, .orphan, .free], ((holding 5000 st 0).entry 0).state = st)
      ∧ ((holding 5000 .issued 0).entry 0).kind = .rd ∧ ((holdingWr .issued).entry 0).kind = .wr := by decide +kernel

/-- For NoticeTransmitSendsOrCancels: the notice chosen with the last credit, with an empty return queue and with a part that
has had its turn, and with a snapshot that is empty or not. -/
theorem witness_NoticeTransmitSendsOrCancels :
    let s := (running.onUp .u0 fun u => { u with credits := 1 }).onNotice fun u => { u with state := .queued, enable := 1, cause := 1 }
    let s' := (s.onUp .u0 fun u => { u with returnQueue := [part .ok true 4], turn := .returned }).onNotice fun u =>
      { u with cause := 2 }
    s.held = false ∧ (s.up.get .u0).link = .up ∧ (s.up.get .u0).pendingCredits.toNat = 0 ∧ s.notice.state = .queued ∧ s.notice.port = .u0
      ∧ 1 ≤ (s.up.get .u0).credits ∧ (s.up.get .u0).returnQueue = [] ∧ s.notice.cause &&& s.notice.enable ≠ 0
      ∧ (s'.up.get .u0).pendingCredits.toNat = 0 ∧ (s'.up.get .u0).turn = .returned ∧ s'.notice.state = .queued
      ∧ s'.notice.cause &&& s'.notice.enable = 0 := by decide +kernel

/-- For ExpiryAnswersTimeout: one microsecond before the moment and after it, no deadline, and the moment itself in each live
state. -/
theorem witness_ExpiryAnswersTimeout :
    (holding 5999 .issued 0).held = false ∧ ((holding 5999 .issued 0).entry 0).deadline ≠ some (holding 5999 .issued 0).time
      ∧ ((holding 6001 .issued 0).entry 0).deadline ≠ some (holding 6001 .issued 0).time
      ∧ (running.entry 0).deadline ≠ some running.time
      ∧ (∀ st ∈ [EntryState.pending, .issued, .streaming], ((holding 6000 st 0).entry 0).state = st
        ∧ ((holding 6000 st 0).entry 0).deadline = some (holding 6000 st 0).time) := by decide +kernel

/-- For TimeAndRepeatExpiry: nothing due, an entry due, a SENT notice whose repeat is due or not, and one that is not SENT. -/
theorem witness_TimeAndRepeatExpiry :
    running.held = false ∧ (∀ k, (running.entry k).state.live = true → (running.entry k).deadline ≠ some running.time)
      ∧ running.notice.state ≠ .sent
      ∧ ((holding 6000 .pending 0).entry 0).state.live = true
      ∧ ((holding 6000 .pending 0).entry 0).deadline = some (holding 6000 .pending 0).time
      ∧ (sentNotice 1000).held = false ∧ (sentNotice 1000).notice.state = .sent
      ∧ (sentNotice 1000).notice.repeatDeadline = some (sentNotice 1000).time
      ∧ (sentNotice 999).notice.repeatDeadline ≠ some (sentNotice 999).time := by decide +kernel

/-- For ManagementWriteIsAnsweredAndCounted: a return queue with room for one part. -/
theorem witness_ManagementWriteIsAnsweredAndCounted : (crowded.up.get .u0).returnQueue.length < 576 := by decide +kernel

/-- For CommitChecksSayWhatIsInstalled: masks of 0 and of 36 ones, and one with a hole. -/
theorem witness_CommitChecksSayWhatIsInstalled :
    (topMask 0).toNat = 2 ^ 48 - 2 ^ (48 - 0) ∧ (topMask 36).toNat = 2 ^ 48 - 2 ^ (48 - 36)
      ∧ ∀ k : Fin 37, (0x7FFF00000000#48).toNat ≠ 2 ^ 48 - 2 ^ (48 - k.val) := by decide +kernel

/-- For ControlWordsCommitDisableOrAreDenied: a staging record without VALID, one that passes the checks, one that fails, a
DISABLE. -/
theorem witness_ControlWordsCommitDisableOrAreDenied :
    (∀ c ∈ [WindowConfig.zero, staging121, { staging121 with sources := 0 }],
      (staged c 1).PresentsWrite .u0 (wr 0x103C 1) (.control 1) 1)
      ∧ ((staged WindowConfig.zero 1).window 1).staging.valid = false
      ∧ commitCheck ((staged staging121 1).window 1).staging = .ok
      ∧ ((staged { staging121 with sources := 0 } 1).window 1).staging.valid = true
      ∧ commitCheck ((staged { staging121 with sources := 0 } 1).window 1).staging ≠ .ok
      ∧ (staged staging121 2).PresentsWrite .u0 (wr 0x103C 2) (.control 1) 2 := by
  unfold State.PresentsWrite State.PresentsAccess State.Presents
  decide +kernel

/-- For ControlWordsCommitDisableOrAreDenied, what is denied: the values 0, 3 and 0x101. -/
theorem witness_otherControl :
    (writing 0x103C 0).PresentsWrite .u0 (wr 0x103C 0) (.control 1) 0
      ∧ (writing 0x103C 3).PresentsWrite .u0 (wr 0x103C 3) (.control 1) 3
      ∧ (writing 0x103C 0x101).PresentsWrite .u0 (wr 0x103C 0x101) (.control 1) 0x101 := by
  unfold State.PresentsWrite State.PresentsAccess State.Presents
  decide +kernel

/-- For BaseReserveAndOrphanLimitWrites, MGMT_BASE_LO: zeros in the low half, and a one in bit 0. -/
theorem witness_BaseReserveAndOrphanLimitWrites :
    (writing 0x10 0x10000).PresentsWrite .u0 (wr 0x10 0x10000) .mgmtBaseLo 0x10000 ∧ (0x10000#32).toNat % 65536 = 0
      ∧ (writing 0x10 0x10001).PresentsWrite .u0 (wr 0x10 0x10001) .mgmtBaseLo 0x10001 ∧ (0x10001#32).toNat % 65536 ≠ 0 := by
  unfold State.PresentsWrite State.PresentsAccess State.Presents
  decide +kernel

/-- For BaseReserveAndOrphanLimitWrites, RESERVE: sums of 64 and 65. -/
theorem witness_reserve :
    (writing 0x208 56).PresentsWrite .u0 (wr 0x208 56) (.up .u0 .reserve) 56
      ∧ (56#32).toNat + ((writing 0x208 56).up.get UPort.u0.other).reserve = 64
      ∧ (writing 0x208 57).PresentsWrite .u0 (wr 0x208 57) (.up .u0 .reserve) 57
      ∧ (57#32).toNat + ((writing 0x208 57).up.get UPort.u0.other).reserve = 65 := by
  unfold State.PresentsWrite State.PresentsAccess State.Presents
  decide +kernel

/-- For BaseReserveAndOrphanLimitWrites, ORPHAN_LIMIT: 0, 1, 32 and 33. -/
theorem witness_orphanLimit :
    (∀ w ∈ [(0x48C, 0#32), (0x48C, 1), (0x48C, 32), (0x48C, 33)],
        (writing w.1 w.2).PresentsWrite .u0 (wr w.1 w.2) (.down .d1 .orphanLimit) w.2)
      ∧ 1 ≤ (1#32).toNat ∧ (32#32).toNat ≤ 32 ∧ (0#32).toNat = 0 ∧ 32 < (33#32).toNat := by
  unfold State.PresentsWrite State.PresentsAccess State.Presents
  decide +kernel

/-- For NoticeUnitWrites and ReleaseRemovesTheOldestRecord: the four heads. -/
theorem witness_NoticeUnitWrites :
    (writing 0x104 0xFFFFFFFF).PresentsWrite .u0 (wr 0x104 0xFFFFFFFF) .enable 0xFFFFFFFF
      ∧ (writing 0x10C 0x20).PresentsWrite .u0 (wr 0x10C 0x20) .clear 0x20
      ∧ (writing 0x110 0).PresentsWrite .u0 (wr 0x110 0) .noticeAck 0 := by
  unfold State.PresentsWrite State.PresentsAccess State.Presents
  decide +kernel

/-- For ReleaseRemovesTheOldestRecord: any value written. -/
theorem witness_ReleaseRemovesTheOldestRecord : (writing 0x870 77).PresentsWrite .u0 (wr 0x870 77) .release 77 := by
  unfold State.PresentsWrite State.PresentsAccess State.Presents
  decide +kernel

/-- For PortCommandsActOrAreDenied, ClearCountersAndCaptureCommands and SoftResetLeavesTheSoftValues: the heads are among `someWrites`; here the fields of their words at the boundaries, and the states
of the port. -/
theorem witness_PortCommandsActOrAreDenied :
    ((0x302#32).extractLsb' 8 8).toNat = DPort.d3.code ∧ ((0x302#32).extractLsb' 0 8).toNat = 2
      ∧ ((0x103#32).extractLsb' 8 8).toNat = DPort.d1.code ∧ ((0x103#32).extractLsb' 0 8).toNat = 3
      ∧ ((0x004#32).extractLsb' 8 8).toNat = DPort.d0.code ∧ ((0x004#32).extractLsb' 0 8).toNat = 4
      ∧ ((credited false false 1).down.get .d1).fenced = false
      ∧ ((credited true true 1).down.get .d1).fenced = true ∧ ((credited true true 1).down.get .d1).retrained = true
      ∧ ((credited true false 1).down.get .d1).retrained = false := by decide +kernel

/-- For PortCommandsActOrAreDenied, what is denied: port arguments 4 and 0xFF, codes 0 and 9. -/
theorem witness_unknown :
    4 ≤ ((0x402#32).extractLsb' 8 8).toNat ∧ 4 ≤ ((0xFF03#32).extractLsb' 8 8).toNat
      ∧ 4 ≤ ((0x404#32).extractLsb' 8 8).toNat ∧ ((0x404#32).extractLsb' 0 8).toNat = 4
      ∧ ((0#32).extractLsb' 0 8).toNat = 0 ∧ 9 ≤ ((9#32).extractLsb' 0 8).toNat := by decide +kernel

/-- For ClearCountersAndCaptureCommands: the codes of the four heads. -/
theorem witness_ClearCountersAndCaptureCommands :
    ∀ w ∈ [(0x18, 5#32), (0x18, 6), (0x18, 7), (0x18, 8)],
      (writing w.1 w.2).PresentsWrite .u0 (wr w.1 w.2) .command w.2 ∧ (w.2.extractLsb' 0 8).toNat = w.2.toNat := by
  unfold State.PresentsWrite State.PresentsAccess State.Presents
  decide +kernel

/-- Values at the boundaries of the ranges of the settings of ports, aperture and notice unit. -/
def portWrites : List (Nat × Reg × Word) :=
    [(0x284, .up .u1 .defaultAction, 0), (0x284, .up .u1 .defaultAction, 1), (0x284, .up .u1 .defaultAction, 2),
      (0x488, .down .d1 .rspTimeout, 0), (0x488, .down .d1 .rspTimeout, 65535), (0x488, .down .d1 .rspTimeout, 65536),
      (0x490, .down .d1 .degOn, 0), (0x490, .down .d1 .degOn, 1), (0x490, .down .d1 .degOn, 8),
      (0x490, .down .d1 .degOn, 9), (0x494, .down .d1 .degOff, 0), (0x494, .down .d1 .degOff, 1),
      (0x494, .down .d1 .degOff, 255), (0x494, .down .d1 .degOff, 256), (0x498, .down .d1 .fenceLimit, 1),
      (0x498, .down .d1 .fenceLimit, 2), (0x498, .down .d1 .fenceLimit, 255), (0x498, .down .d1 .fenceLimit, 256),
      (0xC, .mgmtPermit, 0), (0xC, .mgmtPermit, 1), (0xC, .mgmtPermit, 4), (0x14, .mgmtBaseHi, 7),
      (0x118, .noticeAddrLo, 0x40), (0x118, .noticeAddrLo, 0x42), (0x118, .noticeAddrLo, 0xFC), (0x11C, .noticeAddrHi, 0),
      (0x120, .noticePort, 1), (0x120, .noticePort, 2), (0x124, .noticeRepeat, 65535), (0x124, .noticeRepeat, 65536)]

/-- For PortApertureAndNoticeSettings: such heads; the settings of the state are in their ranges. -/
theorem witness_PortApertureAndNoticeSettings :
    (∀ w ∈ portWrites, (writing w.1 w.2.2).PresentsWrite .u0 (wr w.1 w.2.2) w.2.1 w.2.2)
      ∧ (running.down.get .d1).fenceLimit ≤ 255 ∧ 1 ≤ (running.down.get .d1).degOn := by
  unfold State.PresentsWrite State.PresentsAccess State.Presents
  decide +kernel

/-- The last code and the first value that is none, the boundaries of the ranges, and the six registers of match unit B. -/
def captureWrites : List (Nat × Reg × Word) :=
    [(0x840, .combine, 3), (0x840, .combine, 4), (0x844, .trigger, 3), (0x844, .trigger, 4), (0x848, .capMgmt, 2),
      (0x848, .capMgmt, 3), (0x84C, .capDefault, 2), (0x84C, .capDefault, 3), (0x858, .mode, 1), (0x858, .mode, 2),
      (0x850, .postCount, 255), (0x850, .postCount, 256), (0x854, .threshold, 0), (0x854, .threshold, 1),
      (0x854, .threshold, 256), (0x854, .threshold, 257), (0x820, .matchUnit .b .sets, 5),
      (0x824, .matchUnit .b .window, 5), (0x828, .matchUnit .b .addrValueLo, 5), (0x82C, .matchUnit .b .addrValueHi, 5),
      (0x830, .matchUnit .b .addrCareLo, 5), (0x834, .matchUnit .b .addrCareHi, 5)]

/-- For CaptureSettingsAreCheckedAndStored: such heads, and the codes of their values. -/
theorem witness_CaptureSettingsAreCheckedAndStored :
    (∀ w ∈ captureWrites, (writing w.1 w.2.2).PresentsWrite .u0 (wr w.1 w.2.2) w.2.1 w.2.2)
      ∧ Combine.aNotB.code = (3#32).toNat % 256 ∧ 3 < (4#32).toNat % 256 ∧ Trigger.anyError.code = (3#32).toNat % 256
      ∧ CapMode.all.code = (2#32).toNat % 256 ∧ 2 < (3#32).toNat % 256 ∧ OverflowMode.ring.code = (1#32).toNat % 256
      ∧ 1 < (2#32).toNat % 256 := by
  unfold State.PresentsWrite State.PresentsAccess State.Presents
  decide +kernel

/-- For StagingWordsAreStoredAsWritten: the seven words of window 15, and configuration words with and without a code. -/
theorem witness_StagingWordsAreStoredAsWritten :
    (∀ w ∈ [(0x11E0, WindowWord.baseLo), (0x11E4, .baseHi), (0x11E8, .maskLo), (0x11EC, .maskHi), (0x11F0, .xbaseLo),
        (0x11F4, .xbaseHi), (0x11F8, .config)], (writing w.1 5).PresentsWrite .u0 (wr w.1 5) (.staging 15 w.2) 5)
      ∧ ((0x27000043#32).extractLsb' 4 2).toNat = TargetKind.port.code
      ∧ ((0x27000043#32).extractLsb' 28 2).toNat = CapMode.all.code
      ∧ ((0x30#32).extractLsb' 4 2).toNat = 3 ∧ ((0x30000000#32).extractLsb' 28 2).toNat = 3 := by
  unfold State.PresentsWrite State.PresentsAccess State.Presents
  decide +kernel

/-- For SoftResetLeavesTheSoftValues: a SOFT_RESET behind 574 parts, with an entry in flight. -/
theorem witness_SoftResetLeavesTheSoftValues :
    let s := (headed (holding 5300 .issued 0) .u0 (wr 0x18 1)).onUp .u0 fun u =>
      { u with returnQueue := List.replicate 574 (part .ok true 0) }
    s.PresentsWrite .u0 (wr 0x18 1) .command 1 ∧ ((1#32).extractLsb' 0 8).toNat = 1
      ∧ (s.up.get .u0).returnQueue.length + (s.softResetParts .u0 (wr 0x18 1) .u0).length = 576
      ∧ (s.up.get .u1).returnQueue.length + (s.softResetParts .u0 (wr 0x18 1) .u1).length ≤ 576 := by
  unfold State.PresentsWrite State.PresentsAccess State.Presents
  decide +kernel

/-- For MessageBytesAgree: a usable message of each shape, and bytes with ones outside the fields. -/
theorem witness_MessageBytesAgree :
    (Message.request (pw 0x40)).usable = true ∧ (Message.rsp (part .ok true 64)).usable = true ∧ (Message.cr 64).usable = true
      ∧ Message.ofBytes [0xF5, 0xFF, 0x40, 0xFF] = some (.cr 64) := by decide +kernel

/-- For RegisterMapIsOneToOne: the first and the last assigned offset. -/
theorem witness_RegisterMapIsOneToOne : regAt 0 = some .id ∧ regAt 0x27FC = some (.ottView 127 3) := by decide +kernel

/-! ### Witnesses for the statements about every step -/

/-- The RD of section 12.2 waits on D1, a record stands in the buffer, and a tick of TIME is the next command. -/
def busy : State :=
  { ((holding 5000 .pending 0).onDown .d1 fun d => { d with egress := [.entry 0 []] }).onCapture fun c =>
      { c with buffer := [record 0], nextRseq := 1 } with
    pending := [.timeAdvance] }

/-- Its step answers a next state. -/
theorem busy_steps : step busy = .next { busy with pending := [], time := 5001 } := rfl

/-- Only entry 0 is not FREE. -/
theorem busy_entries : ∀ k, (busy.entry k).state ≠ .free → k = 0 := by decide +kernel

/-- For StepsKeepOneItemPerPendingEntry. -/
theorem witness_StepsKeepOneItemPerPendingEntry : (∃ t, step busy = .next t) ∧ busy.ItemsMatch := by
  refine ⟨⟨_, busy_steps⟩, fun n => ?_, fun n => ?_⟩
  · cases n <;> decide +kernel
  · cases n <;> decide +kernel

/-- For StepsKeepLiveTagsUnique. -/
theorem witness_StepsKeepLiveTagsUnique : (∃ t, step busy = .next t) ∧ busy.ItemsMatch ∧ busy.TagsUnique := by
  refine ⟨⟨_, busy_steps⟩, witness_StepsKeepOneItemPerPendingEntry.2, fun t u ht hu _ _ => ?_, fun x r d h => ?_, fun x => ?_⟩
  · rw [busy_entries t fun h => by simp [h, EntryState.live] at ht, busy_entries u fun h => by simp [h, EntryState.live] at hu]
  · cases x <;> cases h
  · cases x <;> decide +kernel

/-- For StepsKeepTableAndPortsConsistent. -/
theorem witness_StepsKeepTableAndPortsConsistent :
    (∃ t, step busy = .next t) ∧ busy.ItemsMatch ∧ busy.TableConsistent := by
  refine ⟨⟨_, busy_steps⟩, witness_StepsKeepOneItemPerPendingEntry.2, by decide +kernel, by decide +kernel, fun n => ?_, fun n => ?_, fun n => ?_, fun n => ?_,
    fun x d h => ?_, fun x => ?_⟩
  · cases n <;> decide +kernel
  · cases n <;> decide +kernel
  · cases n <;> decide +kernel
  · cases n <;> decide +kernel
  · cases x <;> cases h
  · cases x <;> decide +kernel

/-- For StepsKeepEachUnitLegal, the records of the buffer. -/
theorem busy_capture : busy.CaptureConsistent := by
  refine ⟨fun k r h => ?_, by decide +kernel⟩
  match k with
  | 0 => cases h; rfl
  | _ + 1 => cases h

/-- For StepsKeepEachUnitLegal. -/
theorem witness_StepsKeepEachUnitLegal :
    (∃ t, step busy = .next t) ∧ busy.WindowsChecked ∧ busy.SettingsInRange ∧ busy.QueuesBounded ∧ busy.CreditsInRange
      ∧ busy.NoticeConsistent ∧ busy.CaptureConsistent := by
  refine ⟨⟨_, busy_steps⟩, by unfold State.WindowsChecked; decide +kernel, ?_, ?_, ?_,
    by unfold State.NoticeConsistent; decide +kernel, busy_capture⟩
  · refine ⟨by decide +kernel, fun n => ?_, by decide +kernel, by decide +kernel, by decide +kernel, by decide +kernel,
      by decide +kernel, by decide +kernel, by decide +kernel, by decide +kernel⟩
    cases n <;> decide +kernel
  · refine ⟨fun x => ?_, fun n => ?_, by decide +kernel⟩
    · cases x <;> decide +kernel
    · cases n <;> decide +kernel
  · refine ⟨fun x => ?_, fun n => ?_⟩
    · cases x <;> decide +kernel
    · cases n <;> decide +kernel

/-- The deadlines of a state of one entry. -/
theorem deadlines_of_one {s : State} (h : ∀ k, (s.entry k).deadline ≠ none → k = 0) (h0 : (s.entry 0).deadline = some 6000)
    (hl : (s.entry 0).state.live = true) (hd : (s.entry 0).dispatchTime = 5000) (ht : (s.time - 5000).toNat ≤ 1000)
    (hr : (∀ n ∈ DPort.all, (s.down.get n).rspTimeout ≤ 65535) ∧ s.notice.repeatMs ≤ 65535)
    (hn : s.notice.repeatDeadline = none) : s.DeadlinesAhead := by
  refine ⟨fun n => hr.1 n (by cases n <;> decide), hr.2, fun k moment hk => ?_, fun moment hm => by rw [hn] at hm; cases hm⟩
  obtain rfl := h k (by rw [hk]; simp)
  obtain rfl : 6000 = moment := by rw [h0] at hk; cases hk; rfl
  rw [hd]
  exact ⟨hl, by decide, by decide, ht⟩

/-- For StepsPassNoDeadline: `busy`, and the RD at its moment with a POWER_ON_RESET in front. -/
theorem witness_StepsPassNoDeadline :
    let s : State := { holding 6000 .issued 0 with pending := [.powerOnReset 2] }
    busy.DeadlinesAhead ∧ (∃ t, step s = .next t ∧ t.time ≠ s.time) ∧ s.DeadlinesAhead
      ∧ (s.entry 0).deadline = some s.time :=
  ⟨deadlines_of_one (by decide +kernel) (by decide +kernel) (by decide +kernel) (by decide +kernel) (by decide +kernel)
      (by decide +kernel) (by decide +kernel),
    ⟨_, rfl, by decide +kernel⟩,
    deadlines_of_one (by decide +kernel) (by decide +kernel) (by decide +kernel) (by decide +kernel) (by decide +kernel)
      (by decide +kernel) (by decide +kernel), by decide +kernel⟩

/-- For SettingsChangeOnlyByPermittedWrites: a write of RSP_TIMEOUT changes a setting. -/
theorem witness_SettingsChangeOnlyByPermittedWrites :
    ∃ t, exec (.settingWrite .u0 (.down .d1 .rspTimeout) 5) (writing 0x488 5) = .next t
      ∧ t.settings ≠ (writing 0x488 5).settings :=
  ⟨_, rfl, by decide +kernel⟩

/-- For FenceIsClearedOnlyAfterDown: an UNFENCE of a retrained port, a soft reset of a fenced one that is UP, and the link-down
of a fenced one, which sets RETRAINED. -/
theorem witness_FenceIsClearedOnlyAfterDown :
    let s := (writing 0x18 0x103).onDown .d1 fun d => { d with fenced := true, retrained := true }
    let s' := (writing 0x18 1).onDown .d1 fun d => { d with fenced := true }
    let t := nextOf (exec (.downstreamLinkDown .d1) s')
    (∃ t, exec (.unfence .u0 1) s = .next t) ∧ (s.down.get .d1).fenced = true
      ∧ ((nextOf (exec (.unfence .u0 1) s)).down.get .d1).fenced = false
      ∧ (∃ t, exec (.softReset .u0) s' = .next t) ∧ (s'.down.get .d1).fenced = true
      ∧ ((nextOf (exec (.softReset .u0) s')).down.get .d1).fenced = false
      ∧ exec (.downstreamLinkDown .d1) s' = .next t ∧ (t.down.get .d1).fenced = true ∧ (t.down.get .d1).retrained = true
      ∧ (s'.down.get .d1).retrained = false :=
  ⟨⟨_, rfl⟩, by decide +kernel, by decide +kernel, ⟨_, rfl⟩, by decide +kernel, by decide +kernel, rfl, by decide +kernel,
    by decide +kernel, by decide +kernel⟩

/-- For RequestsGoOutOnlyForCreditsInService: the issue of a PW item whose message was sent before. -/
theorem witness_RequestsGoOutOnlyForCreditsInService :
    let sent := Output.message (.down .d1) (.request (pw 0x40))
    let s := ({ running with outputs := [sent] } : State).onDown .d1 fun d => { d with egress := [.posted 0x40 1 [7]] }
    (∃ t, exec (.issue .d1) s = .next t) ∧ (nextOf (exec (.issue .d1) s)).outputs = [sent] ++ s.outputs :=
  ⟨⟨_, rfl⟩, by decide +kernel⟩

end Sys2Proof.Tests
end

section
/-! PROOFS. The layout of messages (section 11.1): the bits of a word's fields, what the layout reads back from the bytes it
writes, and how many bytes a message has. -/

namespace Sys2Proof

/-! ### The fields of a word -/

theorem bitsAt_getLsbD {n : Nat} (lo : Nat) (v : BitVec n) (i : Nat) :
    (bitsAt lo v).getLsbD i = (decide (i < 32) && (decide (lo ≤ i) && v.getLsbD (i - lo))) := by
  by_cases hi : i < 32 <;> by_cases hl : lo ≤ i <;> simp [bitsAt, hi, hl]

@[simp] theorem bitsAt_extract_self {n lo : Nat} (v : BitVec n) (h : lo + n ≤ 32) : (bitsAt lo v).extractLsb' lo n = v := by
  refine BitVec.eq_of_getLsbD_eq fun i hi => ?_
  have hlt : lo + i < 32 := by omega
  simp only [BitVec.getLsbD_extractLsb', bitsAt_getLsbD, hi, hlt, Nat.le_add_right, Nat.add_sub_cancel_left, decide_true,
    Bool.true_and]

@[simp] theorem bitsAt_extract_apart {n k lo start : Nat} (v : BitVec n) (h : start + k ≤ lo ∨ lo + n ≤ start) :
    (bitsAt lo v).extractLsb' start k = 0 := by
  refine BitVec.eq_of_getLsbD_eq fun i hi => ?_
  rw [BitVec.getLsbD_extractLsb', bitsAt_getLsbD]
  rcases h with h | h
  · have hlo : ¬ lo ≤ start + i := by omega
    simp [hlo]
  · have hn : v.getLsbD (start + i - lo) = false := BitVec.getLsbD_of_ge _ _ (by omega)
    simp [hn]

theorem natAt_eq_bitsAt (n lo : Nat) {v : Nat} (h : v < 2 ^ n) : natAt lo v = bitsAt lo (BitVec.ofNat n v) := by
  have hv : BitVec.ofNat 32 v = (BitVec.ofNat n v).setWidth 32 := by
    refine BitVec.eq_of_toNat_eq ?_
    rw [BitVec.toNat_setWidth, BitVec.toNat_ofNat, BitVec.toNat_ofNat, Nat.mod_eq_of_lt h]
  rw [natAt, bitsAt, hv]

theorem flagAt_eq_bitsAt (lo : Nat) (b : Bool) : flagAt lo b = bitsAt lo (BitVec.ofBool b) := by
  cases b <;> exact natAt_eq_bitsAt 1 lo (by decide)

/-! ### Words and addresses as bytes -/

@[simp] theorem wordBytes_length (w : Word) : (wordBytes w).length = 4 := rfl

/-- Byte by byte, the word of its own bytes has its bits. -/
theorem wordOf_extract (w : Word) :
    wordOf (w.extractLsb' 0 8) (w.extractLsb' 8 8) (w.extractLsb' 16 8) (w.extractLsb' 24 8) = w := by
  refine BitVec.eq_of_getLsbD_eq fun i hi => ?_
  simp only [wordOf, BitVec.getLsbD_append, BitVec.getLsbD_extractLsb']
  grind

/-- Bits 31 to 0 come from the low word, bits 47 to 32 from the high one. -/
theorem withHi_withLo_addrLo_addrHi (a b : Addr) : withHi (withLo b (addrLo a)) (addrHi a) = a := by
  refine BitVec.eq_of_getLsbD_eq fun i hi => ?_
  by_cases hlo : i < 32
  · simp [withHi, withLo, addrLo, addrHi, hlo, hi]
  · have hback : 32 + (i - 32) = i := by omega
    have hword : i - 32 < 32 := by omega
    simp [withHi, withLo, addrLo, addrHi, hlo, hi, hback, hword]

/-! ### Header words -/

/-- The header word of a request (section 11.1). -/
def requestHeader (r : Request) : Word := natAt 0 r.kind.messageCode ||| bitsAt 8 r.tag ||| bitsAt 16 r.len

/-- The header word of a response part (section 11.1). -/
def partHeader (p : Part) : Word := natAt 0 4 ||| bitsAt 8 p.tag ||| natAt 16 p.status.code ||| flagAt 19 p.last

/-- The header word of a CR (section 11.1). -/
def crHeader (count : BitVec 7) : Word := natAt 0 5 ||| bitsAt 16 count

theorem requestHeader_eq (r : Request) :
    requestHeader r = bitsAt 0 (BitVec.ofNat 4 r.kind.messageCode) ||| bitsAt 8 r.tag ||| bitsAt 16 r.len := by
  rw [requestHeader, natAt_eq_bitsAt 4 0 (by cases r.kind <;> decide)]

theorem partHeader_eq (p : Part) :
    partHeader p = bitsAt 0 4#4 ||| bitsAt 8 p.tag ||| bitsAt 16 (BitVec.ofNat 3 p.status.code)
      ||| bitsAt 19 (BitVec.ofBool p.last) := by
  rw [partHeader, natAt_eq_bitsAt 4 0 (by decide), natAt_eq_bitsAt 3 16 (by cases p.status <;> decide), flagAt_eq_bitsAt]

theorem crHeader_eq (count : BitVec 7) : crHeader count = bitsAt 0 5#4 ||| bitsAt 16 count := by
  rw [crHeader, natAt_eq_bitsAt 4 0 (by decide)]

theorem requestHeader_kind (r : Request) : ((requestHeader r).extractLsb' 0 4).toNat = r.kind.messageCode := by
  have hfield : (requestHeader r).extractLsb' 0 4 = BitVec.ofNat 4 r.kind.messageCode := by
    simp [requestHeader_eq, BitVec.extractLsb'_or]
  rw [hfield]
  cases r.kind <;> rfl

theorem requestHeader_tag (r : Request) : (requestHeader r).extractLsb' 8 8 = r.tag := by
  simp [requestHeader_eq, BitVec.extractLsb'_or]

theorem requestHeader_len (r : Request) : (requestHeader r).extractLsb' 16 9 = r.len := by
  simp [requestHeader_eq, BitVec.extractLsb'_or]

theorem partHeader_kind (p : Part) : ((partHeader p).extractLsb' 0 4).toNat = 4 := by
  simp [partHeader_eq, BitVec.extractLsb'_or]

theorem partHeader_tag (p : Part) : (partHeader p).extractLsb' 8 8 = p.tag := by
  simp [partHeader_eq, BitVec.extractLsb'_or]

theorem partHeader_status (p : Part) : Status.ofCode ((partHeader p).extractLsb' 16 3).toNat = some p.status := by
  have hfield : (partHeader p).extractLsb' 16 3 = BitVec.ofNat 3 p.status.code := by
    simp [partHeader_eq, BitVec.extractLsb'_or]
  rw [hfield]
  cases p.status <;> rfl

theorem partHeader_last (p : Part) : (partHeader p).getLsbD 19 = p.last := by
  simp only [partHeader_eq, BitVec.getLsbD_or, bitsAt_getLsbD]
  simp

theorem crHeader_kind (count : BitVec 7) : ((crHeader count).extractLsb' 0 4).toNat = 5 := by
  simp [crHeader_eq, BitVec.extractLsb'_or]

theorem crHeader_count (count : BitVec 7) : (crHeader count).extractLsb' 16 7 = count := by
  simp [crHeader_eq, BitVec.extractLsb'_or]

/-! ### Bytes of messages -/

theorem toBytes_request (r : Request) :
    (Message.request r).toBytes =
      wordBytes (requestHeader r) ++ (wordBytes (addrLo r.addr) ++ (wordBytes (addrHi r.addr) ++ r.data)) := by
  simp only [Message.toBytes, requestHeader, List.append_assoc]

theorem toBytes_rsp (p : Part) : (Message.rsp p).toBytes = wordBytes (partHeader p) ++ p.data := rfl

theorem toBytes_cr (count : BitVec 7) : (Message.cr count).toBytes = wordBytes (crHeader count) := rfl

theorem toBytes_request_length (r : Request) : (Message.request r).toBytes.length = 12 + r.data.length := by
  simp only [toBytes_request, List.length_append, wordBytes_length]; omega

theorem toBytes_rsp_length (p : Part) : (Message.rsp p).toBytes.length = 4 + p.data.length := by
  simp only [toBytes_rsp, List.length_append, wordBytes_length]

/-! ### What the layout reads -/

theorem requestOf_wordBytes (kind : ReqKind) (header lo hi : Word) (data : List Byte) :
    requestOf kind header (wordBytes lo ++ (wordBytes hi ++ data)) = some (.request
      { kind := kind
        tag := header.extractLsb' 8 8
        addr := withHi (withLo 0 lo) hi
        len := header.extractLsb' 16 9
        data := data }) := by
  simp only [wordBytes, List.cons_append, List.nil_append, requestOf, wordOf_extract]

theorem fields_of_requestKind {header : Word} {kind : ReqKind} (h : (header.extractLsb' 0 4).toNat = kind.messageCode)
    (rest : List Byte) : Message.fields (wordBytes header ++ rest) = requestOf kind header rest := by
  simp only [wordBytes, List.cons_append, List.nil_append, Message.fields, wordOf_extract, h]
  cases kind <;> rfl

theorem fields_of_rspKind {header : Word} {status : Status} (h : (header.extractLsb' 0 4).toNat = 4)
    (hs : Status.ofCode (header.extractLsb' 16 3).toNat = some status) (data : List Byte) :
    Message.fields (wordBytes header ++ data) = some (.rsp
      { tag := header.extractLsb' 8 8
        status := status
        last := header.getLsbD 19
        data := data }) := by
  simp only [wordBytes, List.cons_append, List.nil_append, Message.fields, wordOf_extract, h, hs]

theorem fields_of_crKind {header : Word} (h : (header.extractLsb' 0 4).toNat = 5) :
    Message.fields (wordBytes header) = some (.cr (header.extractLsb' 16 7)) := by
  simp only [wordBytes, Message.fields, wordOf_extract, h, List.isEmpty_nil, if_true]

/-- Whatever its fields hold, a message is read back from its own bytes (R191). -/
theorem fields_toBytes (m : Message) : Message.fields m.toBytes = some m := by
  cases m with
  | request r =>
    rw [toBytes_request, fields_of_requestKind (requestHeader_kind r), requestOf_wordBytes, requestHeader_tag,
      requestHeader_len, withHi_withLo_addrLo_addrHi]
  | rsp p =>
    rw [toBytes_rsp, fields_of_rspKind (partHeader_kind p) (partHeader_status p), partHeader_tag, partHeader_last]
  | cr count => rw [toBytes_cr, fields_of_crKind (crHeader_kind count), crHeader_count]

theorem length_of_requestOf {kind : ReqKind} {header : Word} {rest : List Byte} {m : Message}
    (h : requestOf kind header rest = some m) : rest.length + 4 = m.toBytes.length := by
  unfold requestOf at h
  split at h
  · cases h
    simp only [toBytes_request_length, List.length_cons]
    omega
  · cases h

/-- Bytes that hold a message hold its fixed part and its DATA, and no more. -/
theorem length_of_fields {bytes : List Byte} {m : Message} (h : Message.fields bytes = some m) :
    bytes.length = m.toBytes.length := by
  unfold Message.fields at h
  split at h
  · dsimp only at h
    split at h
    · exact length_of_requestOf h
    · exact length_of_requestOf h
    · exact length_of_requestOf h
    · split at h
      · cases h
        rw [toBytes_rsp_length, Nat.add_comm]
        rfl
      · cases h
    · split at h
      · next hempty =>
        cases h
        rw [List.isEmpty_iff.mp hempty]
        rfl
      · cases h
    · cases h
  · cases h

theorem ofBytes_eq_some_iff {bytes : List Byte} {m : Message} :
    Message.ofBytes bytes = some m ↔ Message.fields bytes = some m ∧ m.usable = true := by
  rw [Message.ofBytes, Option.filter_eq_some_iff]

theorem ofBytes_toBytes {m : Message} (h : m.usable = true) : Message.ofBytes m.toBytes = some m :=
  ofBytes_eq_some_iff.mpr ⟨fields_toBytes m, h⟩

/-- Settles O50: a message is read back from its bytes whatever its fields hold, so the two directions differ only by the
structural checks. -/
theorem messageBytesAgree : Obligations.MessageBytesAgree := by
  refine ⟨fun m h => ofBytes_toBytes h, fun bytes m h => ?_⟩
  obtain ⟨hfields, husable⟩ := ofBytes_eq_some_iff.mp h
  refine ⟨husable, ofBytes_toBytes husable, ?_⟩
  cases m with
  | request r => exact (length_of_fields hfields).symm
  | rsp p => exact (length_of_fields hfields).symm
  | cr count => rfl

end Sys2Proof
end

section
/-! PROOFS. The length and block rule (R9), the return load (R125, R126), and what the upstream transmit arbiter lets CR_TRANSMIT
and RESPONSE_PART_TRANSMIT take (R121 to R123). -/

namespace Sys2Proof

/-- Settles O18: the test is the conjunction of the rule's three comparisons. -/
theorem wellFormedIsTheLengthAndBlockRule : Obligations.WellFormedIsTheLengthAndBlockRule := by
  intro r
  simp only [Request.wellFormed, Bool.and_eq_true, decide_eq_true_eq]

namespace Machine

/-! ### The parts owed and the return load (R125, R126) -/

theorem OttEntry.owed_of_not_live {e : OttEntry} (h : e.state.live = false) : e.owed = 0 := by
  simp [OttEntry.owed, h]

theorem OttEntry.owed_wr {e : OttEntry} (h : e.state.live = true) (hk : e.kind = .wr) : e.owed = 1 := by
  simp [OttEntry.owed, h, hk]

theorem OttEntry.owed_rd {e : OttEntry} (h : e.state.live = true) (hk : e.kind = .rd) :
    e.owed = (e.len - e.received + 63) / 64 := by
  simp [OttEntry.owed, h, hk]

theorem EntryState.live_eq_false_iff {st : EntryState} : st.live = false ↔ st = .orphan ∨ st = .free := by
  cases st <;> decide

theorem EntryState.live_eq_true_iff {st : EntryState} :
    st.live = true ↔ st = .pending ∨ st = .issued ∨ st = .streaming := by
  cases st <;> decide

/-- The parts owed for an entry in each of its states: for a RD a ceiling, stated without division. -/
theorem OttEntry.owed_spec (e : OttEntry) :
    (e.state = .orphan ∨ e.state = .free → e.owed = 0)
    ∧ (e.state = .pending ∨ e.state = .issued ∨ e.state = .streaming →
      (e.kind = .wr → e.owed = 1)
      ∧ (e.kind = .rd → e.len - e.received ≤ 64 * e.owed ∧ 64 * e.owed < e.len - e.received + 64)) := by
  refine ⟨fun h => OttEntry.owed_of_not_live (EntryState.live_eq_false_iff.mpr h), fun h => ?_⟩
  have hlive := EntryState.live_eq_true_iff.mpr h
  refine ⟨OttEntry.owed_wr hlive, fun hk => ?_⟩
  rw [OttEntry.owed_rd hlive hk]
  omega

/-- The table as the list of its entries by index. -/
theorem State.ott_toList (s : State) : s.ott.toList = (List.finRange 128).map s.entry := by
  refine List.ext_getElem (by simp) fun i h h' => ?_
  simp [State.entry]

theorem State.partsOwed_eq_owedTo (s : State) (x : UPort) : s.partsOwed x = s.owedTo x := by
  simp [State.partsOwed, State.owedTo, State.ott_toList, Function.comp_def]

theorem State.returnLoad_eq (s : State) (x : UPort) :
    s.returnLoad x = (s.up.get x).returnQueue.length + s.owedTo x := by
  rw [State.returnLoad, State.partsOwed_eq_owedTo]

/-! ### The choice of the upstream transmit arbiter (R121) -/

theorem State.crEligible_iff {s : State} {x : UPort} :
    s.crEligible x = true ↔
      1 ≤ (s.up.get x).pendingCredits.toNat ∧ (s.up.get x).returnQueue.length + s.owedTo x ≤ 512 := by
  simp only [State.crEligible, State.returnLoad_eq, Bool.and_eq_true, decide_eq_true_eq]

theorem State.crEligible_eq_false_iff {s : State} {x : UPort} :
    s.crEligible x = false ↔
      (s.up.get x).pendingCredits.toNat = 0 ∨ 512 < (s.up.get x).returnQueue.length + s.owedTo x := by
  rw [← Bool.not_eq_true, State.crEligible_iff]
  omega

theorem State.noticeEligible_iff {s : State} {x : UPort} :
    s.noticeEligible x = true ↔ s.notice.state = .queued ∧ s.notice.port = x ∧ 1 ≤ (s.up.get x).credits := by
  simp only [State.noticeEligible, Bool.and_eq_true, beq_iff_eq, decide_eq_true_eq, and_assoc]

theorem State.partEligible_of_cons {s : State} {x : UPort} {p : Part} {rest : List Part}
    (h : (s.up.get x).returnQueue = p :: rest) : s.partEligible x = true := by
  simp [State.partEligible, h]

theorem State.arbiterChoice_eq_cr_iff {s : State} {x : UPort} :
    s.arbiterChoice x = some .cr ↔ (s.up.get x).link = .up ∧ s.crEligible x = true := by
  by_cases hup : (s.up.get x).link = .up
  · cases hcr : s.crEligible x
    case true => simp [State.arbiterChoice, hup, hcr]
    case false =>
      cases hp : s.partEligible x <;> cases hn : s.noticeEligible x <;> cases ht : (s.up.get x).turn <;>
        simp [State.arbiterChoice, hup, hcr, hp, hn, ht]
  · simp [State.arbiterChoice, hup]

/-- While no CR is eligible, a part goes out unless the turn is an eligible notice's. -/
theorem State.arbiterChoice_eq_part_iff {s : State} {x : UPort} (hup : (s.up.get x).link = .up)
    (hcr : s.crEligible x = false) (hpart : s.partEligible x = true) :
    s.arbiterChoice x = some .part ↔ ¬ (s.noticeEligible x = true ∧ (s.up.get x).turn = .returned) := by
  cases hn : s.noticeEligible x <;> cases ht : (s.up.get x).turn <;> simp [State.arbiterChoice, hup, hcr, hpart, hn, ht]

/-! ### The commands of the transmitter -/

theorem State.onUp_congr (s : State) {x : UPort} {f g : Upstream → Upstream} (h : f (s.up.get x) = g (s.up.get x)) :
    s.onUp x f = s.onUp x g := by
  have hmodify : s.up.modify x f = s.up.modify x g := PerUp.ext_get fun y => by
    by_cases hy : y = x
    · rw [hy, PerUp.get_modify_self, PerUp.get_modify_self, h]
    · rw [PerUp.get_modify_ne _ f hy, PerUp.get_modify_ne _ g hy]
  rw [State.onUp, State.onUp, hmodify]

theorem exec_crTransmit {x : UPort} {s : State} (hheld : s.held = false) :
    exec (.crTransmit x) s = .next (if s.arbiterChoice x = some .cr then s.sendCr x else s) := by
  simp only [exec, execCrTransmit, whileRunning, hheld, Bool.false_eq_true, if_false]

theorem exec_responsePartTransmit {x : UPort} {s : State} (hheld : s.held = false) :
    exec (.responsePartTransmit x) s = .next (if s.arbiterChoice x = some .part then s.sendPart x else s) := by
  simp only [exec, execResponsePartTransmit, whileRunning, hheld, Bool.false_eq_true, if_false]

/-- The CR takes from the pending count what it hands out, at most 64 (R15, R122). -/
theorem State.sendCr_eq (s : State) (x : UPort) :
    s.sendCr x =
      (s.emit (.message (.up x) (.cr (BitVec.ofNat 7 (min (s.up.get x).pendingCredits.toNat 64))))).onUp x fun u =>
        { u with pendingCredits := u.pendingCredits - BitVec.ofNat 32 (min u.pendingCredits.toNat 64) } :=
  State.onUp_congr _ rfl

theorem State.sendPart_cons {s : State} {x : UPort} {p : Part} {rest : List Part}
    (h : (s.up.get x).returnQueue = p :: rest) :
    s.sendPart x =
      (s.emit (.message (.up x) (.rsp p))).onUp x fun u => { u with returnQueue := rest, turn := .returned } := by
  simp only [State.sendPart, h]

/-- Settles O34: each command sends exactly where the arbiter chooses its kind of message. -/
theorem crAndPartTransmitFollowTheArbiter : Obligations.CrAndPartTransmitFollowTheArbiter := by
  refine ⟨fun x s hheld => ?_, OttEntry.owed_spec, fun x p rest s hheld hup hqueue hcr => ?_⟩
  · simp only [exec_crTransmit hheld, State.sendCr_eq, State.arbiterChoice_eq_cr_iff, State.crEligible_iff]
  · have hpart := State.arbiterChoice_eq_part_iff hup (State.crEligible_eq_false_iff.mpr hcr)
      (State.partEligible_of_cons hqueue)
    simp only [exec_responsePartTransmit hheld, State.sendPart_cons hqueue, hpart, State.noticeEligible_iff, and_assoc,
      ite_not]

end Machine
end Sys2Proof
end

section
/-! PROOFS. The two words of a 48-bit value as numbers (chapter 11). -/

namespace Sys2Proof

/-! ### The halves of a 48-bit value -/

theorem addrLo_toNat (a : Addr) : (addrLo a).toNat = a.toNat % 2 ^ 32 := BitVec.toNat_setWidth 32 a

theorem addrHi_toNat (a : Addr) : (addrHi a).toNat = a.toNat / 2 ^ 32 := by
  have h := a.isLt
  rw [addrHi, BitVec.toNat_setWidth, BitVec.toNat_ushiftRight, Nat.shiftRight_eq_div_pow]
  omega

theorem withLo_toNat (a : Addr) (w : Word) : (withLo a w).toNat = a.toNat / 2 ^ 32 * 2 ^ 32 + w.toNat := by
  have ha := a.isLt
  have hw := w.isLt
  have hhigh : a.toNat / 2 ^ 32 * 2 ^ 32 < 2 ^ 48 := by omega
  rw [withLo, BitVec.toNat_or, BitVec.toNat_shiftLeft, BitVec.toNat_ushiftRight, BitVec.toNat_setWidth,
    Nat.shiftRight_eq_div_pow, Nat.shiftLeft_eq, Nat.mod_eq_of_lt hhigh, Nat.mod_eq_of_lt (by omega), Nat.mul_comm,
    Nat.two_pow_add_eq_or_of_lt hw]

theorem withHi_toNat (a : Addr) (w : Word) : (withHi a w).toNat = w.toNat % 65536 * 2 ^ 32 + a.toNat % 2 ^ 32 := by
  have hw := w.isLt
  have hlow : a.toNat % 2 ^ 32 < 2 ^ 32 := Nat.mod_lt _ (by decide)
  have hhigh : w.toNat % 2 ^ 48 * 2 ^ 32 % 2 ^ 48 = w.toNat % 65536 * 2 ^ 32 := by omega
  rw [withHi, BitVec.toNat_or, BitVec.toNat_shiftLeft, BitVec.toNat_setWidth, BitVec.toNat_setWidth, BitVec.toNat_setWidth,
    Nat.shiftLeft_eq, hhigh, Nat.mod_eq_of_lt (hlow.trans (by decide)), Nat.mul_comm, Nat.two_pow_add_eq_or_of_lt hlow]

end Sys2Proof
end

section
/-! PROOFS. What the shared operations of traffic do to the bounds and the consistency of each unit (R16, R45, R112, R127, R157,
R169): a relation between the units before and after, and one lemma for each operation. -/

namespace Sys2Proof.Machine

/-! ### What each unit keeps -/

/-- The queues of an upstream port are within their capacities (R45, R127). -/
def Upstream.QueuesBounded (u : Upstream) : Prop :=
  u.ingress.length ≤ Config.ingressCapacity ∧ u.returnQueue.length ≤ Config.returnCapacity

/-- The credits of an upstream port are in range; a DOWN port holds and owes none and queues no request (R15, R16, R66). -/
def Upstream.CreditsInRange (u : Upstream) : Prop :=
  u.credits ≤ Config.creditLimit ∧ (u.link = .down → u.credits = 0 ∧ u.pendingCredits = 0 ∧ u.ingress = [])

/-- The credits of a downstream port are in range; a DOWN port holds none (R116, R130). -/
def Downstream.CreditsInRange (d : Downstream) : Prop :=
  d.credits ≤ Config.creditLimit ∧ (d.link = .down → d.credits = 0)

/-- The notice unit leaves no active cause in IDLE, and its deadline and mark stand in their states (R169, R171, R173). -/
def NoticeUnit.Consistent (u : NoticeUnit) : Prop :=
  (u.state = .idle → u.active = 0) ∧ (u.repeatDeadline.isSome = true → u.state = .sent)
    ∧ (u.repeatMark = true → u.state = .queued)

/-- The records of the buffer are numbered up to the next number (R157). -/
def Capture.Numbered (c : Capture) : Prop :=
  ∀ (k : Nat) (r : Record), c.buffer[k]? = some r → r.rseq = c.nextRseq - BitVec.ofNat 16 (c.buffer.length - k)

/-- The records are numbered, and TRIGGERED still has records to take (R154, R157). -/
def Capture.Consistent (c : Capture) : Prop := c.Numbered ∧ (c.state = .triggered → 0 < c.postRemain)

/-- An upstream port keeps its link and its bounds. -/
structure Upstream.Follows (u v : Upstream) : Prop where
  link    : v.link = u.link
  queues  : u.QueuesBounded → v.QueuesBounded
  credits : u.CreditsInRange → v.CreditsInRange

/-- A downstream port keeps its bounds. -/
structure Downstream.Follows (d e : Downstream) : Prop where
  queue   : d.egress.length ≤ Config.egressCapacity → e.egress.length ≤ Config.egressCapacity
  credits : d.CreditsInRange → e.CreditsInRange

/-- The capture unit keeps its bound and its consistency. -/
structure Capture.Follows (c d : Capture) : Prop where
  buffer     : c.buffer.length ≤ Config.captureCapacity → d.buffer.length ≤ Config.captureCapacity
  consistent : c.Consistent → d.Consistent

/-- Every unit of the bridge keeps its bounds and its consistency, and no upstream link changes. -/
structure State.Follows (s t : State) : Prop where
  up      : ∀ x, (s.up.get x).Follows (t.up.get x)
  down    : ∀ n, (s.down.get n).Follows (t.down.get n)
  capture : s.capture.Follows t.capture
  notice  : s.notice.Consistent → t.notice.Consistent

theorem Upstream.Follows.refl (u : Upstream) : u.Follows u := ⟨rfl, id, id⟩
theorem Downstream.Follows.refl (d : Downstream) : d.Follows d := ⟨id, id⟩
theorem Capture.Follows.refl (c : Capture) : c.Follows c := ⟨id, id⟩

theorem Upstream.Follows.trans {u v w : Upstream} (h : u.Follows v) (h' : v.Follows w) : u.Follows w :=
  ⟨h'.link.trans h.link, h'.queues ∘ h.queues, h'.credits ∘ h.credits⟩

theorem Downstream.Follows.trans {d e f : Downstream} (h : d.Follows e) (h' : e.Follows f) : d.Follows f :=
  ⟨h'.queue ∘ h.queue, h'.credits ∘ h.credits⟩

theorem Capture.Follows.trans {c d e : Capture} (h : c.Follows d) (h' : d.Follows e) : c.Follows e :=
  ⟨h'.buffer ∘ h.buffer, h'.consistent ∘ h.consistent⟩

namespace State.Follows

theorem refl (s : State) : s.Follows s := ⟨fun _ => .refl _, fun _ => .refl _, .refl _, id⟩

variable {s t : State}

theorem trans {r : State} (h : s.Follows t) (h' : t.Follows r) : s.Follows r :=
  ⟨fun x => (h.up x).trans (h'.up x), fun n => (h.down n).trans (h'.down n), h.capture.trans h'.capture,
    h'.notice ∘ h.notice⟩

/-! ### Field updates -/

/-- What changes none of the units. -/
theorem same_units {r : State} (h : s.Follows t) (hup : r.up = t.up) (hdown : r.down = t.down) (hcap : r.capture = t.capture)
    (hnotice : r.notice = t.notice) : s.Follows r :=
  h.trans ⟨fun _ => hup ▸ .refl _, fun _ => hdown ▸ .refl _, hcap ▸ .refl _, hnotice ▸ id⟩

theorem onUp (h : s.Follows t) (x : UPort) {f : Upstream → Upstream} (hf : (t.up.get x).Follows (f (t.up.get x))) :
    s.Follows (t.onUp x f) := by
  refine h.trans ⟨fun y => ?_, fun _ => .refl _, .refl _, id⟩
  rw [State.onUp_up, PerUp.get_modify]
  split
  · next hy => rw [hy]; exact hf
  · exact .refl _

theorem onDown (h : s.Follows t) (n : DPort) {f : Downstream → Downstream}
    (hf : (t.down.get n).Follows (f (t.down.get n))) : s.Follows (t.onDown n f) := by
  refine h.trans ⟨fun _ => .refl _, fun k => ?_, .refl _, id⟩
  rw [State.onDown_down, PerDown.get_modify]
  split
  · next hk => rw [hk]; exact hf
  · exact .refl _

theorem onCapture (h : s.Follows t) {f : Capture → Capture} (hf : t.capture.Follows (f t.capture)) :
    s.Follows (t.onCapture f) :=
  h.trans ⟨fun _ => .refl _, fun _ => .refl _, hf, id⟩

theorem onNotice (h : s.Follows t) {f : NoticeUnit → NoticeUnit}
    (hf : t.notice.Consistent → (f t.notice).Consistent) : s.Follows (t.onNotice f) :=
  h.trans ⟨fun _ => .refl _, fun _ => .refl _, .refl _, hf⟩

theorem onEntry (h : s.Follows t) (k : Fin 128) (f : OttEntry → OttEntry) : s.Follows (t.onEntry k f) :=
  h.same_units rfl rfl rfl rfl

theorem onWindow (h : s.Follows t) (i : Fin 16) (f : WindowEntry → WindowEntry) : s.Follows (t.onWindow i f) :=
  h.same_units rfl rfl rfl rfl

theorem emit (h : s.Follows t) (o : Output) : s.Follows (t.emit o) := h.same_units rfl rfl rfl rfl

theorem countUp (h : s.Follows t) (x : UPort) (f : UpCounters → UpCounters) : s.Follows (t.countUp x f) :=
  h.onUp x ⟨rfl, id, id⟩

theorem countDown (h : s.Follows t) (n : DPort) (f : DownCounters → DownCounters) : s.Follows (t.countDown n f) :=
  h.onDown n ⟨id, id⟩

theorem foldl {α : Type} (h : s.Follows t) {f : State → α → State} (hf : ∀ r a, s.Follows r → s.Follows (f r a))
    (l : List α) : s.Follows (l.foldl f t) := by
  induction l generalizing t with
  | nil => exact h
  | cons a l ih => exact ih (hf t a h)

end State.Follows

/-! ### Causes -/

/-- The examination restores the first clause, if it is all that was lost (R169). -/
theorem NoticeUnit.examine_consistent {u : NoticeUnit} (hdeadline : u.repeatDeadline.isSome = true → u.state = .sent)
    (hmark : u.repeatMark = true → u.state = .queued) : u.examine.Consistent := by
  unfold NoticeUnit.examine
  split
  · next h =>
    have hnone : u.repeatDeadline.isSome ≠ true := fun hd => by rw [hdeadline hd] at h; cases h.1
    exact ⟨(nomatch ·), fun hd => absurd hd hnone, fun _ => rfl⟩
  · next h => exact ⟨fun hidle => by_contra fun hact => h ⟨hidle, hact⟩, hdeadline, hmark⟩

namespace State.Follows

variable {s t : State}

theorem raise (h : s.Follows t) (c : Cause) : s.Follows (t.raise c) :=
  h.onNotice fun ⟨_, hdeadline, hmark⟩ => NoticeUnit.examine_consistent hdeadline hmark

theorem raiseOpt (h : s.Follows t) (c : Option Cause) : s.Follows (t.raiseOpt c) := by
  cases c with
  | none => exact h
  | some c => exact h.raise c

/-! ### Parts -/

theorem protocolErrorUp (h : s.Follows t) (x : UPort) : s.Follows (t.protocolErrorUp x) := (h.countUp x _).raise _

theorem protocolErrorDown (h : s.Follows t) (n : DPort) : s.Follows (t.protocolErrorDown n) := (h.countDown n _).raise _

theorem placePart (h : s.Follows t) (x : UPort) (p : Part) : s.Follows (t.placePart x p) := by
  unfold State.placePart
  split
  · exact h.protocolErrorUp x
  · next hroom =>
    refine h.onUp x ⟨rfl, fun hq => ⟨hq.1, ?_⟩, id⟩
    simp only [List.length_append, List.length_singleton]
    omega

theorem placeParts (h : s.Follows t) (x : UPort) (ps : List Part) : s.Follows (t.placeParts x ps) :=
  h.foldl (fun _ p hr => hr.placePart x p) ps

theorem answer (h : s.Follows t) (x : UPort) (r : Request) (status : Status) : s.Follows (t.answer x r status) := by
  unfold State.answer
  split
  · exact h
  · exact h.placePart x _
  · exact h.placePart x _

end State.Follows

/-! ### The capture unit -/

/-- A buffer one longer than before: the record before each place keeps its number (R157). -/
theorem rseq_succ (next : BitVec 16) {len k : Nat} (h : k ≤ len) :
    next + 1 - BitVec.ofNat 16 (len + 1 - k) = next - BitVec.ofNat 16 (len - k) := by
  have hsucc : len + 1 - k = len - k + 1 := by omega
  rw [hsucc, BitVec.ofNat_add]
  exact add_sub_add_right_eq_sub _ _ _

theorem Capture.Numbered.append {c d : Capture} {r : Record} (h : c.Numbered) (hr : r.rseq = c.nextRseq)
    (hbuffer : d.buffer = c.buffer ++ [r]) (hnext : d.nextRseq = c.nextRseq + 1) : d.Numbered := by
  intro k q hq
  rw [hbuffer] at hq ⊢
  rw [hnext, List.length_append, List.length_singleton]
  rcases Nat.lt_trichotomy k c.buffer.length with hk | hk | hk
  · rw [List.getElem?_append_left hk] at hq
    rw [rseq_succ _ hk.le, h k q hq]
  · subst hk
    obtain rfl : r = q := by simpa using hq
    rw [rseq_succ _ le_rfl, hr, Nat.sub_self]
    simp
  · rw [List.getElem?_eq_none (by simp; omega)] at hq
    cases hq

theorem Capture.Numbered.tail {c d : Capture} (h : c.Numbered) (hbuffer : d.buffer = c.buffer.tail)
    (hnext : d.nextRseq = c.nextRseq) : d.Numbered := by
  intro k q hq
  rw [hbuffer] at hq ⊢
  rw [List.getElem?_tail] at hq
  rw [hnext, h _ q hq, List.length_tail]
  congr 2
  omega

/-- The buffer keeps its bound and its numbering, whatever becomes of the trigger. -/
structure Capture.Stores (c d : Capture) : Prop where
  buffer   : c.buffer.length ≤ Config.captureCapacity → d.buffer.length ≤ Config.captureCapacity
  numbered : c.Numbered → d.Numbered

theorem Capture.Stores.of_same {c d : Capture} (hbuffer : d.buffer = c.buffer) (hnext : d.nextRseq = c.nextRseq) :
    c.Stores d := by
  refine ⟨fun h => hbuffer ▸ h, fun h => ?_⟩
  unfold Capture.Numbered
  rw [hbuffer, hnext]
  exact h

theorem Capture.Stores.follows {c d : Capture} (h : c.Stores d)
    (htrigger : (c.state = .triggered → 0 < c.postRemain) → d.state = .triggered → 0 < d.postRemain) : c.Follows d :=
  ⟨h.buffer, fun hc => ⟨h.numbered hc.1, htrigger hc.2⟩⟩

/-- The units but the trigger keep their bounds and their consistency; the ports do not change. -/
structure State.Stores (s t : State) : Prop where
  up      : t.up = s.up
  down    : t.down = s.down
  capture : s.capture.Stores t.capture
  notice  : s.notice.Consistent → t.notice.Consistent

namespace State.Stores

variable {s t : State}

theorem refl (s : State) : s.Stores s := ⟨rfl, rfl, ⟨id, id⟩, id⟩

theorem onCapture (h : s.Stores t) {f : Capture → Capture} (hf : t.capture.Stores (f t.capture)) :
    s.Stores (t.onCapture f) :=
  ⟨h.up, h.down, ⟨hf.buffer ∘ h.capture.buffer, hf.numbered ∘ h.capture.numbered⟩, h.notice⟩

theorem raise (h : s.Stores t) (c : Cause) : s.Stores (t.raise c) :=
  ⟨h.up, h.down, h.capture, ((Follows.refl t).raise c).notice ∘ h.notice⟩

/-- A record is appended, replaces the oldest one, or is dropped (R157 to R159). -/
theorem offer (h : s.Stores t) (flag : Bool) (b : RecordBody) : s.Stores (t.offer flag b) := by
  unfold State.offer
  dsimp only
  split
  · next hroom =>
    have happend : s.Stores (t.onCapture fun c =>
        { c with buffer := t.capture.buffer ++ [t.capture.record t.time flag b], nextRseq := t.capture.nextRseq + 1 }) := by
      refine h.onCapture ⟨fun _ => ?_, fun hn => hn.append rfl rfl rfl⟩
      simp only [List.length_append, List.length_singleton]
      omega
    split
    · exact happend.raise _
    · exact happend
  · next hfull =>
    split
    · refine (h.onCapture ⟨fun hb => ?_, fun hn => ?_⟩).raise _
      · simp only [List.length_append, List.length_singleton, List.length_tail, Config.captureCapacity] at hb hfull ⊢
        omega
      · exact (hn.tail (d := { t.capture with buffer := t.capture.buffer.tail }) rfl rfl).append rfl rfl rfl
    · exact (h.onCapture (.of_same rfl rfl)).raise _

theorem freezeAtZero (h : s.Stores t) : s.Stores t.freezeAtZero := by
  unfold State.freezeAtZero
  split
  · exact (h.onCapture (.of_same rfl rfl)).raise _
  · exact h

end State.Stores

/-- Once it has been tested, TRIGGERED still has records to take (R153, R154). -/
theorem State.freezeAtZero_triggered {s : State} (h : s.freezeAtZero.capture.state = .triggered) :
    0 < s.freezeAtZero.capture.postRemain := by
  unfold State.freezeAtZero at h ⊢
  split at h
  · cases h
  · next hne =>
    rw [if_neg hne]
    omega

theorem State.offer_trigger (s : State) (flag : Bool) (b : RecordBody) :
    (s.offer flag b).capture.state = s.capture.state ∧ (s.offer flag b).capture.postRemain = s.capture.postRemain := by
  unfold State.offer
  dsimp only
  split
  · split <;> exact ⟨rfl, rfl⟩
  · split <;> exact ⟨rfl, rfl⟩

namespace State.Stores

variable {s : State}

theorem follows {t : State} (h : s.Stores t)
    (htrigger : (s.capture.state = .triggered → 0 < s.capture.postRemain) →
      t.capture.state = .triggered → 0 < t.capture.postRemain) : s.Follows t :=
  ⟨fun _ => h.up ▸ .refl _, fun _ => h.down ▸ .refl _, h.capture.follows htrigger, h.notice⟩

theorem offer_follows (flag : Bool) (b : RecordBody) : s.Follows (s.offer flag b) :=
  ((refl s).offer flag b).follows fun hs ht => by
    rw [(s.offer_trigger flag b).1] at ht
    rw [(s.offer_trigger flag b).2]
    exact hs ht

theorem triggerCapture_follows (candidate : Bool) (b : RecordBody) : s.Follows (s.triggerCapture candidate b) := by
  have harmed : s.Stores ((s.onCapture fun c => { c with state := .triggered, postRemain := c.postCount }).raise
      .captureTriggered) := ((refl s).onCapture (.of_same rfl rfl)).raise _
  unfold State.triggerCapture
  cases candidate
  · exact harmed.freezeAtZero.follows fun _ => State.freezeAtZero_triggered
  · exact (harmed.offer true b).freezeAtZero.follows fun _ => State.freezeAtZero_triggered

theorem recordTriggered_follows (b : RecordBody) : s.Follows (s.recordTriggered b) := by
  unfold State.recordTriggered
  split
  · exact (((refl s).offer false b).onCapture (.of_same rfl rfl)).freezeAtZero.follows fun _ =>
      State.freezeAtZero_triggered
  · exact offer_follows false b

theorem hand_follows (candidate fires : Bool) (b : RecordBody) : s.Follows (s.hand candidate fires b) := by
  unfold State.hand
  split
  · exact .refl s
  · exact .refl s
  · split
    · exact triggerCapture_follows candidate b
    · split
      · exact offer_follows false b
      · exact .refl s
  · split
    · exact recordTriggered_follows b
    · exact .refl s

end State.Stores

end Sys2Proof.Machine
end

section
/-! PROOFS. What heads, allocation events, fences, link-downs, arrivals, transmitters and timers do to the units: one lemma for
each operation. -/

namespace Sys2Proof.Machine

/-! ### Entries and heads -/

/-- A port that may hold a head is UP, if its credits are in range: a DOWN port queues no request (R66). -/
def Upstream.Linked (u : Upstream) : Prop := u.CreditsInRange → u.link = .up

theorem Upstream.linked_of_ingress {u : Upstream} (h : u.ingress ≠ []) : u.Linked := fun ⟨_, hdown⟩ => by
  cases hlink : u.link with
  | up => rfl
  | down =>
    obtain ⟨-, -, hempty⟩ := hdown hlink
    exact absurd hempty h

theorem State.ingress_of_waitingHead {s : State} {x : UPort} {p : Request × Decoded} (h : s.waitingHead x = some p) :
    (s.up.get x).ingress ≠ [] := by
  intro hnil
  simp [State.waitingHead, hnil] at h

theorem State.ingress_of_undecodedHead {s : State} {x : UPort} {r : Request} (h : s.undecodedHead x = some r) :
    (s.up.get x).ingress ≠ [] := by
  intro hnil
  simp [State.undecodedHead, hnil] at h

namespace State.Follows

variable {s t : State}

theorem hand (h : s.Follows t) (candidate fires : Bool) (b : RecordBody) : s.Follows (t.hand candidate fires b) :=
  h.trans (State.Stores.hand_follows candidate fires b)

theorem handRequest (h : s.Follows t) (g : Handing) : s.Follows (t.handRequest g) := h.hand _ _ _

theorem handCompletion (h : s.Follows t) (k : Fin 128) (status : Status) : s.Follows (t.handCompletion k status) :=
  h.hand _ _ _

theorem release (h : s.Follows t) (k : Fin 128) : s.Follows (t.release k) := h.onEntry k _

theorem orphan (h : s.Follows t) (k : Fin 128) : s.Follows (t.orphan k) := h.onEntry k _

theorem complete (h : s.Follows t) (k : Fin 128) (status : Status) : s.Follows (t.complete k status) := by
  unfold State.complete
  split
  · exact (h.handCompletion k status).onEntry k _
  · exact h

theorem retire (h : s.Follows t) (k : Fin 128) (status : Status) : s.Follows (t.retire k status) :=
  (h.placePart _ _).complete k status

theorem dropItem (h : s.Follows t) (k : Fin 128) : s.Follows (t.dropItem k) :=
  h.onDown _ ⟨(List.length_filter_le _ _).trans, id⟩

theorem linked (h : s.Follows t) {x : UPort} (ht : (t.up.get x).Linked) : (s.up.get x).Linked := fun hc =>
  (h.up x).link ▸ ht ((h.up x).credits hc)

/-- On a port that was UP a change of the credits owed needs no bound (R15). -/
theorem onUp_of_linked (h : s.Follows t) {x : UPort} (hx : (s.up.get x).Linked) {f : Upstream → Upstream}
    (hlink : (f (t.up.get x)).link = (t.up.get x).link)
    (hqueues : (t.up.get x).QueuesBounded → (f (t.up.get x)).QueuesBounded)
    (hcredits : (f (t.up.get x)).credits = (t.up.get x).credits) : s.Follows (t.onUp x f) := by
  refine ⟨fun y => ?_, h.down, h.capture, h.notice⟩
  rw [State.onUp_up, PerUp.get_modify]
  split
  · next hy =>
    subst hy
    refine ⟨hlink.trans (h.up y).link, hqueues ∘ (h.up y).queues, fun hc => ⟨?_, fun hdown => ?_⟩⟩
    · rw [hcredits]
      exact ((h.up y).credits hc).1
    · rw [hlink, (h.up y).link, hx hc] at hdown
      cases hdown
  · exact h.up y

theorem popHead (h : s.Follows t) {x : UPort} (hx : (s.up.get x).Linked) : s.Follows (t.popHead x) := by
  refine h.onUp_of_linked hx rfl (fun hq => ⟨?_, hq.2⟩) rfl
  rw [List.length_tail]
  exact (Nat.sub_le _ _).trans hq.1

theorem resolveHead (h : s.Follows t) {x : UPort} (hx : (s.up.get x).Linked) (r : Request) (code : WindowCode)
    (d : Disposition) (cause : Option Cause) (forward : Option ForwardInfo) :
    s.Follows (t.resolveHead x r code d cause forward) :=
  (((h.popHead hx).countUp x _).raiseOpt cause).handRequest _

theorem refuseHead (h : s.Follows t) {x : UPort} (hx : (s.up.get x).Linked) (r : Request) (code : WindowCode)
    (d : Disposition) (status : Status) : s.Follows (t.refuseHead x r code d status) :=
  (h.answer x r status).resolveHead hx r code d _ none

theorem failWaiting (h : s.Follows t) (x : UPort) (n : DPort) : s.Follows (t.failWaiting x n) := by
  unfold State.failWaiting
  split
  · next hhead =>
    split
    · exact h.refuseHead (h.linked (Upstream.linked_of_ingress (State.ingress_of_waitingHead hhead))) _ _ _ _
    · exact h
  · exact h

theorem failWaitingHeads (h : s.Follows t) (n : DPort) : s.Follows (t.failWaitingHeads n) := by
  unfold State.failWaitingHeads
  split
  · exact ((h.same_units (r := { t with choices := t.choices + 1 }) rfl rfl rfl rfl).failWaiting _ n).failWaiting _ n
  · exact (h.failWaiting _ n).failWaiting _ n

theorem resolveForwarded (h : s.Follows t) (x : UPort) (ticket : Option Ticket) :
    s.Follows (t.resolveForwarded x ticket) := by
  unfold State.resolveForwarded
  split
  · exact h
  · split
    · next hhead =>
      exact h.resolveHead (h.linked (Upstream.linked_of_ingress (State.ingress_of_waitingHead hhead))) _ _ _ _ _
    · exact h

theorem resolveTickets (h : s.Follows t) (served : UPort) (t0 t1 : Option Ticket) :
    s.Follows (t.resolveTickets served t0 t1) := by
  unfold State.resolveTickets
  dsimp only
  split
  · exact (h.resolveForwarded _ _).resolveForwarded _ _
  · exact ((h.same_units (r := { t with choices := t.choices + 1 }) rfl rfl rfl rfl).resolveForwarded _ _).resolveForwarded
      _ _
  · exact (h.resolveForwarded _ _).resolveForwarded _ _

end State.Follows

/-! ### The allocation event -/

theorem State.waitingHead_congr {s t : State} (h : t.up = s.up) (x : UPort) : t.waitingHead x = s.waitingHead x := by
  rw [State.waitingHead, State.waitingHead, h]

/-- Service of a head changes the table and the last-grant record alone (R74). -/
theorem State.serve_units (s : State) (x : UPort) (admitted : Bool) :
    (s.serve x admitted).1.up = s.up ∧ (s.serve x admitted).1.down = s.down
      ∧ (s.serve x admitted).1.capture = s.capture ∧ (s.serve x admitted).1.notice = s.notice := by
  unfold State.serve
  split
  · split
    · exact ⟨rfl, rfl, rfl, rfl⟩
    · split <;> exact ⟨rfl, rfl, rfl, rfl⟩
  · exact ⟨rfl, rfl, rfl, rfl⟩

/-- Only a head that the admission arbiter admits gets a ticket (R113). -/
theorem State.admitted_of_ticket {s : State} {x : UPort} {admitted : Bool} (h : (s.serve x admitted).2.isSome = true) :
    admitted = true := by
  cases admitted with
  | true => rfl
  | false => simp [State.serve] at h

/-- The queue that the head of Ux waits for has a free slot (R113). -/
def State.HasSlot (s : State) (x : UPort) : Prop :=
  ∀ r d, s.waitingHead x = some (r, d) → (s.down.get d.egress).egress.length < Config.egressCapacity

/-- Where both heads wait for one queue, it has a free slot for each (R113). -/
def State.HasSlotForEach (s : State) (x : UPort) : Prop :=
  ∀ r d r' d', s.waitingHead x = some (r, d) → s.waitingHead x.other = some (r', d') → d.egress = d'.egress →
    (s.down.get d.egress).egress.length + 1 < Config.egressCapacity

theorem State.wantsSlot_of_admits {s : State} {x : UPort} (h : s.admits x = true) {r : Request} {d : Decoded}
    (hhead : s.waitingHead x = some (r, d)) : s.wantsSlot x = some d.egress ∧ 1 ≤ s.freeSlots d.egress := by
  cases hwants : s.wantsSlot x with
  | none => simp [State.admits, hwants] at h
  | some n =>
    simp only [State.wantsSlot, hhead, Option.ite_none_right_eq_some, Bool.and_eq_true, decide_eq_true_eq,
      Option.some.injEq] at hwants
    obtain ⟨⟨⟨_, hfree⟩, _⟩, rfl⟩ := hwants
    exact ⟨rfl, hfree⟩

theorem State.hasSlot_of_admits {s : State} {x : UPort} (h : s.admits x = true) : s.HasSlot x := fun r d hhead => by
  have hfree := (State.wantsSlot_of_admits h hhead).2
  rw [State.freeSlots] at hfree
  omega

/-- Of two heads that want the one remaining slot, the one whose port holds the pointer is not admitted (R113). -/
theorem State.hasSlotForEach_of_admits {s : State} {x : UPort} (h : s.admits x = true) (h' : s.admits x.other = true) :
    s.HasSlotForEach x := by
  intro r d r' d' hhead hhead' hsame
  obtain ⟨hwants, hfree⟩ := State.wantsSlot_of_admits h hhead
  obtain ⟨hwants', -⟩ := State.wantsSlot_of_admits h' hhead'
  rw [← hsame] at hwants'
  have hone : s.freeSlots d.egress ≠ 1 := fun hone => by
    simp only [State.admits, hwants, hwants', hone, UPort.other_other, beq_self_eq_true, Bool.true_and, Bool.not_eq_true',
      beq_eq_false_iff_ne] at h h'
    rcases UPort.eq_or_other x (s.down.get d.egress).admission with hp | hp
    · exact h hp
    · exact h' hp
  rw [State.freeSlots] at hfree hone
  omega

theorem State.join_up (s : State) (x : UPort) (ticket : Option Ticket) : (s.join x ticket).up = s.up := by
  unfold State.join
  split
  · rfl
  · split <;> rfl

namespace State.Follows

variable {s t : State}

theorem serve (h : s.Follows t) (x : UPort) (admitted : Bool) : s.Follows (t.serve x admitted).1 := by
  obtain ⟨hup, hdown, hcap, hnotice⟩ := t.serve_units x admitted
  exact h.same_units hup hdown hcap hnotice

theorem join (h : s.Follows t) {x : UPort} {ticket : Option Ticket} (hslot : ticket.isSome = true → t.HasSlot x) :
    s.Follows (t.join x ticket) := by
  unfold State.join
  split
  · exact h
  · split
    · next hhead =>
      refine h.onDown _ ⟨fun _ => ?_, id⟩
      rw [List.length_append]
      exact hslot rfl _ _ hhead
    · exact h

/-- Two heads join their queues one after the other. -/
theorem join_join (h : s.Follows t) {x : UPort} {ticket ticket' : Option Ticket} (hslot : ticket.isSome = true → t.HasSlot x)
    (hslot' : ticket'.isSome = true → t.HasSlot x.other)
    (heach : ticket.isSome = true → ticket'.isSome = true → t.HasSlotForEach x) :
    s.Follows ((t.join x ticket).join x.other ticket') := by
  refine (h.join hslot).join fun ht' r' d' hhead' => ?_
  rw [State.waitingHead_congr (t.join_up x ticket)] at hhead'
  unfold State.join
  split
  · exact hslot' ht' r' d' hhead'
  · split
    · next r d hhead =>
      rw [State.onDown_down, PerDown.get_modify]
      split
      · next hsame =>
        rw [List.length_append, hsame]
        exact heach rfl ht' r d r' d' hhead hhead' hsame.symm
      · exact hslot' ht' r' d' hhead'
    · exact hslot' ht' r' d' hhead'

end State.Follows

theorem State.HasSlot.congr {s t : State} (hup : t.up = s.up) (hdown : t.down = s.down) {x : UPort} (h : s.HasSlot x) :
    t.HasSlot x := fun r d hhead => by
  rw [State.waitingHead_congr hup] at hhead
  rw [hdown]
  exact h r d hhead

theorem State.HasSlotForEach.congr {s t : State} (hup : t.up = s.up) (hdown : t.down = s.down) {x : UPort}
    (h : s.HasSlotForEach x) : t.HasSlotForEach x := fun r d r' d' hhead hhead' => by
  rw [State.waitingHead_congr hup] at hhead hhead'
  rw [hdown]
  exact h r d r' d' hhead hhead'

/-- The tickets of an allocation event join queues that have slots for them. -/
theorem State.Follows.join_admitted {s t a : State} (h : s.Follows t) (hup : t.up = a.up) (hdown : t.down = a.down) {x : UPort}
    {ticket ticket' : Option Ticket} (hadmits : ticket.isSome = true → a.admits x = true)
    (hadmits' : ticket'.isSome = true → a.admits x.other = true) : s.Follows ((t.join x ticket).join x.other ticket') :=
  h.join_join (fun ht => (State.hasSlot_of_admits (hadmits ht)).congr hup hdown)
    (fun ht => (State.hasSlot_of_admits (hadmits' ht)).congr hup hdown)
    fun ht ht' => (State.hasSlotForEach_of_admits (hadmits ht) (hadmits' ht')).congr hup hdown

theorem State.Follows.allocate {s t : State} (h : s.Follows t) : s.Follows t.allocate := by
  have hserved : ∀ x : UPort, ∃ a : State, a = ((t.serve x (t.admits x)).1.serve x.other (t.admits x.other)).1
      ∧ s.Follows a ∧ a.up = t.up ∧ a.down = t.down := fun x => by
    obtain ⟨hup, hdown, -, -⟩ := t.serve_units x (t.admits x)
    obtain ⟨hup', hdown', -, -⟩ := (t.serve x (t.admits x)).1.serve_units x.other (t.admits x.other)
    exact ⟨_, rfl, (h.serve x _).serve x.other _, hup'.trans hup, hdown'.trans hdown⟩
  unfold State.allocate
  dsimp only
  refine State.Follows.resolveTickets ?_ _ _ _
  obtain ⟨a, ha, hfollows, hup, hdown⟩ := hserved t.lastGrant.other
  rw [← ha]
  cases t.lastGrant <;> split
  · exact hfollows.join_admitted (x := .u0) hup hdown State.admitted_of_ticket State.admitted_of_ticket
  · exact hfollows.join_admitted (x := .u1) hup hdown State.admitted_of_ticket State.admitted_of_ticket
  · exact hfollows.join_admitted (x := .u0) hup hdown State.admitted_of_ticket State.admitted_of_ticket
  · exact hfollows.join_admitted (x := .u1) hup hdown State.admitted_of_ticket State.admitted_of_ticket

namespace State.Follows

variable {s t : State}

/-! ### The fence and the link-down of a downstream port -/

theorem flush (h : s.Follows t) (n : DPort) : s.Follows (t.flush n) := h.onDown n ⟨fun _ => Nat.zero_le _, id⟩

theorem fenceEntry (h : s.Follows t) (n : DPort) (k : Fin 128) : s.Follows (t.fenceEntry n k) := by
  unfold State.fenceEntry
  split
  · exact h
  · split
    · exact (h.retire k _).release k
    · exact (h.retire k _).orphan k
    · exact (h.retire k _).orphan k
    · exact h
    · exact h

theorem unlinkEntry (h : s.Follows t) (n : DPort) (k : Fin 128) : s.Follows (t.unlinkEntry n k) := by
  unfold State.unlinkEntry
  split
  · exact h
  · split
    · exact (h.retire k _).release k
    · exact (h.retire k _).release k
    · exact (h.retire k _).release k
    · exact h.release k
    · exact h

theorem fence (h : s.Follows t) (n : DPort) (reason : FenceReason) : s.Follows (t.fence n reason) := by
  unfold State.fence
  split
  · exact h
  · refine ((State.Follows.foldl ?_ (fun _ k hr => hr.fenceEntry n k) ottIndices).flush n).failWaitingHeads n
    exact (h.onDown n ⟨id, id⟩).raise _

theorem orphanTest (h : s.Follows t) (n : DPort) : s.Follows (t.orphanTest n) := by
  unfold State.orphanTest
  split
  · exact h.fence n _
  · exact h

theorem fenceEvent (h : s.Follows t) (n : DPort) (reason : FenceReason) : s.Follows (t.fenceEvent n reason) := by
  unfold State.fenceEvent
  split
  · exact h
  · exact (h.fence n reason).allocate

theorem orphanTestEvent (h : s.Follows t) (n : DPort) : s.Follows (t.orphanTestEvent n) := by
  unfold State.orphanTestEvent
  split
  · exact h.fenceEvent n _
  · exact h

theorem linkDown (h : s.Follows t) (n : DPort) : s.Follows (t.linkDown n) := by
  have hdown : s.Follows (t.onDown n fun d =>
      { d with
        link := .down
        badRun := 0
        goodRun := 0
        degraded := false
        retrained := d.fenced || d.retrained
        credits := 0
        counters := { d.counters with linkDowns := satInc d.counters.linkDowns } }) :=
    h.onDown n ⟨id, fun _ => ⟨Nat.zero_le _, fun _ => rfl⟩⟩
  unfold State.linkDown
  refine ((State.Follows.foldl ?_ (fun _ k hr => hr.unlinkEntry n k) ottIndices).flush n).failWaitingHeads n
  split
  · exact (hdown.raise _).raise _
  · exact hdown.raise _

theorem forceDown (h : s.Follows t) (n : DPort) : s.Follows (t.forceDown n) := by
  unfold State.forceDown
  split
  · exact (h.linkDown n).emit _
  · exact h

/-! ### Arrivals -/

theorem recoverTest (h : s.Follows t) (n : DPort) : s.Follows (t.recoverTest n) := by
  unfold State.recoverTest
  dsimp only
  split
  · exact (h.onDown n ⟨id, id⟩).raise _
  · exact h

theorem degradeTest (h : s.Follows t) (n : DPort) : s.Follows (t.degradeTest n) := by
  unfold State.degradeTest
  dsimp only
  split
  · exact (h.onDown n ⟨id, id⟩).raise _
  · exact h

theorem countGood (h : s.Follows t) (n : DPort) : s.Follows (t.countGood n) := (h.onDown n ⟨id, id⟩).recoverTest n

theorem damageTest (h : s.Follows t) (n : DPort) : s.Follows (t.damageTest n) := by
  unfold State.damageTest
  split
  · exact h.fenceEvent n _
  · exact h

theorem countDamaged (h : s.Follows t) (p : Port) : s.Follows (t.countDamaged p) := by
  cases p with
  | up x =>
    unfold State.countDamaged
    exact h.countUp x _
  | down n => exact ((h.onDown n ⟨id, id⟩).degradeTest n).damageTest n

theorem requestArrives (h : s.Follows t) {x : UPort} (hup : (t.up.get x).link ≠ .down) (r : Request) :
    s.Follows (t.requestArrives x r) := by
  unfold State.requestArrives
  split
  · next hroom =>
    refine h.onUp x ⟨rfl, fun hq => ⟨?_, hq.2⟩, fun hc => ⟨hc.1, fun hdown => absurd hdown hup⟩⟩
    rw [List.length_append]
    exact hroom
  · exact h.protocolErrorUp x

theorem crArrivesUp (h : s.Follows t) {x : UPort} (hup : (t.up.get x).link ≠ .down) (count : BitVec 7) :
    s.Follows (t.crArrivesUp x count) := by
  unfold State.crArrivesUp
  split
  · next hroom => exact h.onUp x ⟨rfl, id, fun _ => ⟨hroom, fun hdown => absurd hdown hup⟩⟩
  · exact h.protocolErrorUp x

theorem crArrivesDown (h : s.Follows t) {n : DPort} (hup : (t.down.get n).link ≠ .down) (count : BitVec 7) :
    s.Follows (t.crArrivesDown n count) := by
  have htaken (hroom : (t.down.get n).credits + count.toNat ≤ Config.creditLimit) :
      s.Follows (t.onDown n fun d => { d with credits := d.credits + count.toNat }) :=
    h.onDown n ⟨id, fun _ => ⟨hroom, fun hdown => absurd hdown hup⟩⟩
  unfold State.crArrivesDown
  dsimp only
  split
  · split
    · next hroom => exact htaken hroom.2
    · exact h.countDown n _
  · split
    · next hroom => exact htaken hroom
    · exact (h.countDown n _).fenceEvent n _

theorem strayPart (h : s.Follows t) (n : DPort) : s.Follows (t.strayPart n) := (h.countDown n _).raise _

theorem latePart (h : s.Follows t) (n : DPort) (k : Fin 128) (last : Bool) : s.Follows (t.latePart n k last) := by
  unfold State.latePart
  dsimp only
  split
  · exact ((h.countDown n _).release k).allocate
  · exact h.countDown n _

theorem endAnswer (h : s.Follows t) (n : DPort) (k : Fin 128) (status : Status) (last : Bool) :
    s.Follows (t.endAnswer n k status last) := by
  unfold State.endAnswer
  cases last
  · exact ((h.retire k status).orphan k).orphanTestEvent n
  · exact ((h.retire k status).release k).allocate

theorem expireEntry (h : s.Follows t) (k : Fin 128) : s.Follows (t.expireEntry k) := by
  unfold State.expireEntry
  split
  · exact (((h.dropItem k).retire k _).release k).allocate
  · exact ((h.retire k _).orphan k).orphanTestEvent _
  · exact ((h.retire k _).orphan k).orphanTestEvent _
  · exact h
  · exact h

theorem expire (h : s.Follows t) (k : Fin 128) : s.Follows (t.expire k) := by
  unfold State.expire
  split
  · exact ((h.countDown _ _).raise _).expireEntry k
  · exact h

theorem forwardPart (h : s.Follows t) (k : Fin 128) (p : Part) : s.Follows (t.forwardPart k p) :=
  ((h.placePart _ _).onEntry k _).expire k

theorem forwardLast (h : s.Follows t) (k : Fin 128) (p : Part) : s.Follows (t.forwardLast k p) :=
  ((((h.placePart _ _).onEntry k _).complete k _).release k).allocate

theorem livePart (h : s.Follows t) (n : DPort) (k : Fin 128) (p : Part) : s.Follows (t.livePart n k p) := by
  unfold State.livePart
  split
  · exact h.endAnswer n k _ _
  · split
    · split
      · exact h.forwardLast k p
      · exact h.forwardPart k p
    · exact (h.countDown n _).endAnswer n k _ _

theorem partArrives (h : s.Follows t) (n : DPort) (p : Part) : s.Follows (t.partArrives n p) := by
  unfold State.partArrives
  split
  · exact h.strayPart n
  · exact h.latePart n _ _
  · exact h.livePart n _ p

end State.Follows

theorem State.countGood_link (s : State) (n k : DPort) : ((s.countGood n).down.get k).link = (s.down.get k).link := by
  have hcounted : ∀ t : State, ((t.recoverTest n).down.get k).link = (t.down.get k).link := fun t => by
    unfold State.recoverTest
    dsimp only
    split
    · rw [State.raise, State.onNotice_down, State.onDown_down, PerDown.get_modify]
      split <;> rfl
    · rfl
  rw [State.countGood, hcounted, State.onDown_down, PerDown.get_modify]
  split <;> rfl

namespace State.Follows

variable {s t : State}

theorem receive (h : s.Follows t) {p : Port} (hup : t.linkOf p ≠ .down) (m : Message) : s.Follows (t.receive p m) := by
  unfold State.receive
  split
  · exact h.requestArrives hup _
  · exact h.crArrivesUp hup _
  · exact h.protocolErrorUp _
  · exact (h.countGood _).partArrives _ _
  · exact (h.countGood _).crArrivesDown (by rw [State.countGood_link]; exact hup) _
  · exact (h.countGood _).protocolErrorDown _

theorem arrive (h : s.Follows t) (p : Port) (m : Message) : s.Follows (t.arrive p m) := by
  unfold State.arrive
  split
  · exact h
  · next hup =>
    split
    · exact h.receive hup m
    · exact h.countDamaged p

theorem arriveDamaged (h : s.Follows t) (p : Port) (bytes : Option (List Byte)) : s.Follows (t.arriveDamaged p bytes) := by
  unfold State.arriveDamaged
  split
  · exact h
  · split
    · exact h.arrive p _
    · exact h.countDamaged p

/-! ### Links, transmitters and timers -/

theorem downstreamLinkUp (h : s.Follows t) (n : DPort) : s.Follows (t.downstreamLinkUp n) := by
  unfold State.downstreamLinkUp
  split
  · exact h
  · exact (h.onDown n ⟨id, fun _ => ⟨Nat.zero_le _, fun _ => rfl⟩⟩).raise _

theorem downstreamLinkDown (h : s.Follows t) (n : DPort) : s.Follows (t.downstreamLinkDown n) := by
  unfold State.downstreamLinkDown
  split
  · exact h
  · exact (h.linkDown n).allocate

theorem issueHead (h : s.Follows t) (n : DPort) : s.Follows (t.issueHead n) := by
  unfold State.issueHead
  split
  · exact h
  · next item rest hqueue =>
    split
    · have htaken : s.Follows ((t.emit (.message (.down n) (.request (t.requestOfItem item)))).onDown n fun d =>
          { d with
            egress := rest
            credits := d.credits - 1
            counters := { d.counters with requestsSent := satInc d.counters.requestsSent } }) := by
        refine (h.emit _).onDown n ⟨fun hq => ?_, fun hc => ⟨(Nat.sub_le _ _).trans hc.1, fun hdown => ?_⟩⟩
        · rw [State.emit_down, hqueue, List.length_cons] at hq
          exact (Nat.le_succ _).trans hq
        · exact congrArg (· - 1) (hc.2 hdown)
      cases item with
      | entry k data => exact (htaken.onEntry k _).allocate
      | posted xaddr len data => exact htaken.allocate
    · exact h

theorem sendCr (h : s.Follows t) {x : UPort} (hup : (t.up.get x).link = .up) : s.Follows (t.sendCr x) :=
  (h.emit _).onUp_of_linked (h.linked fun _ => hup) rfl id rfl

theorem sendPart (h : s.Follows t) (x : UPort) : s.Follows (t.sendPart x) := by
  unfold State.sendPart
  split
  · exact h
  · next p rest hqueue =>
    refine (h.emit _).onUp x ⟨rfl, fun hq => ⟨hq.1, ?_⟩, id⟩
    have hlen := hq.2
    rw [State.emit_up, hqueue, List.length_cons] at hlen
    exact (Nat.le_succ _).trans hlen

theorem sendNotice (h : s.Follows t) (x : UPort) : s.Follows (t.sendNotice x) := by
  unfold State.sendNotice
  split
  · next hempty => exact (h.onNotice fun _ => ⟨fun _ => hempty, Bool.noConfusion, Bool.noConfusion⟩).sendPart x
  · refine ((h.emit _).onUp x ⟨rfl, id, fun hc => ⟨(Nat.sub_le _ _).trans hc.1, fun hdown => ?_⟩⟩).onNotice
      fun _ => ⟨nofun, fun _ => rfl, nofun⟩
    exact ⟨congrArg (· - 1) (hc.2 hdown).1, (hc.2 hdown).2⟩

theorem repeatExpire (h : s.Follows t) : s.Follows t.repeatExpire := by
  unfold State.repeatExpire
  split
  · exact h.onNotice fun _ => ⟨nofun, nofun, fun _ => rfl⟩
  · exact h

theorem advance (h : s.Follows t) : s.Follows t.advance := by
  unfold State.advance
  split
  · exact h
  · exact h.same_units rfl rfl rfl rfl

end State.Follows

end Sys2Proof.Machine
end

section
/-! PROOFS. The window records checked (R34) and the settings in range (R71, R96, R105, R139, R163, R175, R181): what they
rest on, and what each field update asks. -/

namespace Sys2Proof.Machine

/-! ### The window records and the settings in range -/

/-- The settings of a downstream port are in their ranges (R96, R105, R139). -/
def Downstream.SettingsInRange (d : Downstream) : Prop :=
  d.rspTimeout ≤ 65535 ∧ 1 ≤ d.orphanLimit ∧ d.orphanLimit ≤ 32 ∧ 1 ≤ d.degOn ∧ d.degOn ≤ d.fenceLimit
    ∧ d.fenceLimit ≤ 255 ∧ 1 ≤ d.degOff ∧ d.degOff ≤ 255

/-- The numbers of the capture unit are in their ranges (R163). -/
def Capture.SettingsInRange (c : Capture) : Prop := c.postCount ≤ 255 ∧ 1 ≤ c.threshold ∧ c.threshold ≤ 256

/-- The repeat interval and the address of the notice unit are in their ranges (R175). -/
def NoticeUnit.SettingsInRange (u : NoticeUnit) : Prop :=
  u.repeatMs ≤ 65535 ∧ u.addr.toNat % 4 = 0 ∧ u.addr.toNat % 256 ≠ 252

theorem State.settingsInRange_iff {s : State} :
    s.SettingsInRange ↔ (s.up.get .u0).reserve + (s.up.get .u1).reserve ≤ Config.reserveLimit
      ∧ (∀ n, (s.down.get n).SettingsInRange) ∧ s.capture.SettingsInRange ∧ s.notice.SettingsInRange
      ∧ s.mgmtPermit ≠ 0 ∧ s.mgmtBase.toNat % 65536 = 0 := by
  simp only [State.SettingsInRange, Downstream.SettingsInRange, Capture.SettingsInRange, NoticeUnit.SettingsInRange, and_assoc]

/-- The window records stay checked and the settings in range. -/
structure State.KeepsSettings (s t : State) : Prop where
  windows  : s.WindowsChecked → t.WindowsChecked
  settings : s.SettingsInRange → t.SettingsInRange

/-- A window entry as the settings of a state hold it. -/
theorem State.window_of_settings {s t : State} (h : t.settings = s.settings) (i : Fin 16) :
    (t.window i).settings = (s.window i).settings := by
  have hlist : t.windows.toList.map WindowEntry.settings = s.windows.toList.map WindowEntry.settings :=
    congrArg Settings.windows h
  have hentry := congrArg (fun l => l[i.val]?) hlist
  simp only [List.getElem?_map, Vector.getElem?_toList, Vector.getElem?_eq_getElem i.isLt, Option.map_some,
    Option.some.injEq] at hentry
  exact hentry

theorem State.active_of_settings {s t : State} (h : t.settings = s.settings) (i : Fin 16) :
    (t.window i).active = (s.window i).active := congrArg Prod.fst (State.window_of_settings h i)

theorem State.staging_of_settings {s t : State} (h : t.settings = s.settings) (i : Fin 16) :
    (t.window i).staging = (s.window i).staging := congrArg Prod.snd (State.window_of_settings h i)

theorem State.reserve_of_settings {s t : State} (h : t.settings = s.settings) (x : UPort) :
    (t.up.get x).reserve = (s.up.get x).reserve := by
  have hup : (t.up.get x).settings = (s.up.get x).settings := by
    simpa [State.settings] using congrArg (PerUp.get · x) (congrArg Settings.up h)
  exact congrArg Prod.snd hup

theorem State.WindowsChecked.congr {s t : State} (h : ∀ i, (t.window i).active = (s.window i).active)
    (hs : s.WindowsChecked) : t.WindowsChecked := fun i => by
  rw [h i]
  exact hs i

theorem Downstream.SettingsInRange.congr {d e : Downstream} (h : e.settings = d.settings) (hd : d.SettingsInRange) :
    e.SettingsInRange := by
  simp only [Downstream.settings, DownSettings.mk.injEq] at h
  obtain ⟨htimeout, horphan, hon, hoff, hfence⟩ := h
  rw [Downstream.SettingsInRange, htimeout, horphan, hon, hoff, hfence]
  exact hd

theorem Capture.SettingsInRange.congr {c d : Capture} (h : d.settings = c.settings) (hc : c.SettingsInRange) :
    d.SettingsInRange := by
  rw [Capture.SettingsInRange, show d.postCount = c.postCount from congrArg CaptureSettings.postCount h,
    show d.threshold = c.threshold from congrArg CaptureSettings.threshold h]
  exact hc

namespace State.KeepsSettings

theorem refl (s : State) : s.KeepsSettings s := ⟨id, id⟩

variable {s t : State}

theorem trans {r : State} (h : s.KeepsSettings t) (h' : t.KeepsSettings r) : s.KeepsSettings r :=
  ⟨h'.windows ∘ h.windows, h'.settings ∘ h.settings⟩

theorem of_settings (h : t.settings = s.settings) : s.KeepsSettings t := by
  refine ⟨fun hw => hw.congr (State.active_of_settings h), fun hs => ?_⟩
  have hdown : ∀ n, (t.down.get n).settings = (s.down.get n).settings := fun n => by
    simpa [State.settings] using congrArg (PerDown.get · n) (congrArg Settings.down h)
  obtain ⟨hsum, hports, hcapture, hnotice, hpermit, hbase⟩ := State.settingsInRange_iff.mp hs
  refine State.settingsInRange_iff.mpr ⟨?_, fun n => (hports n).congr (hdown n),
    hcapture.congr (congrArg Settings.capture h), ?_, ?_, ?_⟩
  · rw [State.reserve_of_settings h, State.reserve_of_settings h]
    exact hsum
  · rw [NoticeUnit.SettingsInRange, show t.notice.repeatMs = s.notice.repeatMs from congrArg Settings.repeatMs h,
      show t.notice.addr = s.notice.addr from congrArg Settings.noticeAddr h]
    exact hnotice
  · rw [show t.mgmtPermit = s.mgmtPermit from congrArg Settings.mgmtPermit h]
    exact hpermit
  · rw [show t.mgmtBase = s.mgmtBase from congrArg Settings.mgmtBase h]
    exact hbase

theorem of_kept (h : t.kept = s.kept) : s.KeepsSettings t := of_settings (State.kept_settings h)

theorem onDown (n : DPort) {f : Downstream → Downstream}
    (hf : (s.down.get n).SettingsInRange → (f (s.down.get n)).SettingsInRange) : s.KeepsSettings (s.onDown n f) := by
  refine ⟨id, fun hs => ?_⟩
  obtain ⟨hsum, hports, hrest⟩ := State.settingsInRange_iff.mp hs
  refine State.settingsInRange_iff.mpr ⟨hsum, fun k => ?_, hrest⟩
  rw [State.onDown_down, PerDown.get_modify]
  split
  · next hk => exact hk ▸ hf (hports n)
  · exact hports k

theorem onCapture {f : Capture → Capture} (hf : s.capture.SettingsInRange → (f s.capture).SettingsInRange) :
    s.KeepsSettings (s.onCapture f) :=
  ⟨id, fun hs =>
    have ⟨hsum, hports, hcapture, hrest⟩ := State.settingsInRange_iff.mp hs
    State.settingsInRange_iff.mpr ⟨hsum, hports, hf hcapture, hrest⟩⟩

theorem onNotice {f : NoticeUnit → NoticeUnit} (hf : s.notice.SettingsInRange → (f s.notice).SettingsInRange) :
    s.KeepsSettings (s.onNotice f) :=
  ⟨id, fun hs =>
    have ⟨hsum, hports, hcapture, hnotice, hrest⟩ := State.settingsInRange_iff.mp hs
    State.settingsInRange_iff.mpr ⟨hsum, hports, hcapture, hf hnotice, hrest⟩⟩

/-- A window record is changed to one that is checked if it is valid (R34). -/
theorem onWindow (i : Fin 16) {f : WindowEntry → WindowEntry}
    (hf : (((s.window i).active.valid = true → commitCheck (s.window i).active = .ok) →
      (f (s.window i)).active.valid = true → commitCheck (f (s.window i)).active = .ok)) :
    s.KeepsSettings (s.onWindow i f) := by
  refine ⟨fun hw j => ?_, id⟩
  rw [State.window_onWindow]
  split
  · exact hf (hw i)
  · exact hw j

end State.KeepsSettings

end Sys2Proof.Machine
end

section
/-! PROOFS. What a management access does to the units and to the settings (R180): each register, the control word (R32 to R37)
and the command word (R184, R185). -/

namespace Sys2Proof.Machine

/-! ### Writes of settings and actions -/

theorem inRange_eq_some_iff {lo hi k : Nat} {v : Word} :
    inRange lo hi v = some k ↔ lo ≤ v.toNat ∧ v.toNat ≤ hi ∧ v.toNat = k := by
  rw [inRange, Option.ite_none_right_eq_some, Option.some.injEq, and_assoc]

theorem noticeAddrRefused_eq_false_iff {v : Word} :
    noticeAddrRefused v = false ↔ v.toNat % 4 = 0 ∧ v.toNat % 256 ≠ 252 := by
  simp only [noticeAddrRefused, Bool.or_eq_false_iff, bne_eq_false_iff_eq, beq_eq_false_iff_ne, ne_eq,
    ← BitVec.toNat_inj, BitVec.extractLsb'_toNat, Nat.shiftRight_zero]
  rfl

theorem NoticeUnit.examine_settings (u : NoticeUnit) : u.examine.addr = u.addr ∧ u.examine.repeatMs = u.repeatMs := by
  rw [u.examine_only]
  exact ⟨rfl, rfl⟩

theorem NoticeUnit.acknowledge_settings (u : NoticeUnit) (v : Word) :
    (u.acknowledge v).addr = u.addr ∧ (u.acknowledge v).repeatMs = u.repeatMs := by
  unfold NoticeUnit.acknowledge
  split
  · exact NoticeUnit.examine_settings _
  · exact ⟨rfl, rfl⟩

theorem NoticeUnit.SettingsInRange.congr {u w : NoticeUnit} (h : w.addr = u.addr ∧ w.repeatMs = u.repeatMs)
    (hu : u.SettingsInRange) : w.SettingsInRange := by
  rw [NoticeUnit.SettingsInRange, h.1, h.2]
  exact hu

/-- An acknowledgement leaves IDLE at once where a cause is active (R169, R172). -/
theorem NoticeUnit.acknowledge_consistent {u : NoticeUnit} (v : Word) (h : u.Consistent) : (u.acknowledge v).Consistent := by
  unfold NoticeUnit.acknowledge
  split
  · exact NoticeUnit.examine_consistent nofun nofun
  · exact h

/-- A smaller set of causes leaves nothing more behind in IDLE (R168, R169). -/
theorem NoticeUnit.Consistent.clear {u : NoticeUnit} (set : BitVec 25) (h : u.Consistent) :
    ({ u with cause := u.cause &&& set } : NoticeUnit).Consistent := by
  obtain ⟨hidle, hdeadline, hmark⟩ := h
  refine ⟨fun hstate => ?_, hdeadline, hmark⟩
  have hactive : u.cause &&& u.enable = 0 := hidle hstate
  change u.cause &&& set &&& u.enable = 0
  rw [BitVec.and_assoc, BitVec.and_comm set, ← BitVec.and_assoc, hactive]
  exact BitVec.zero_and

theorem State.storeUp_follows {s t : State} {x : UPort} {r : UpReg} {v : Word} (h : s.storeUp x r v = some t) :
    s.Follows t := by
  cases r <;> simp only [State.storeUp, Option.map_eq_some_iff, reduceCtorEq] at h
  all_goals
    obtain ⟨_, _, rfl⟩ := h
    exact (State.Follows.refl s).onUp x ⟨rfl, id, id⟩

theorem State.storeDown_follows {s t : State} {n : DPort} {r : DownReg} {v : Word} (h : s.storeDown n r v = some t) :
    s.Follows t := by
  cases r <;> simp only [State.storeDown, Option.map_eq_some_iff, reduceCtorEq] at h
  all_goals
    obtain ⟨_, _, rfl⟩ := h
    exact (State.Follows.refl s).onDown n ⟨id, id⟩

/-- A unit with the same buffer, number and trigger. -/
theorem Capture.Follows.of_same {c d : Capture} (hbuffer : d.buffer = c.buffer) (hnext : d.nextRseq = c.nextRseq)
    (hstate : d.state = c.state) (hremain : d.postRemain = c.postRemain) : c.Follows d :=
  (Capture.Stores.of_same hbuffer hnext).follows fun h => by rw [hstate, hremain]; exact h

/-- A unit with the same buffer and number that is not TRIGGERED. -/
theorem Capture.Follows.of_untriggered {c d : Capture} (hbuffer : d.buffer = c.buffer) (hnext : d.nextRseq = c.nextRseq)
    (hstate : d.state ≠ .triggered) : c.Follows d :=
  (Capture.Stores.of_same hbuffer hnext).follows fun _ h => absurd h hstate

theorem State.store_follows {s t : State} {r : Reg} {v : Word} (h : s.store r v = some t) : s.Follows t := by
  cases r with
  | up x r => exact State.storeUp_follows h
  | down n r => exact State.storeDown_follows h
  | mgmtPermit | mgmtBaseLo =>
    simp only [State.store, Option.ite_none_left_eq_some, Option.ite_none_right_eq_some, Option.some.injEq] at h
    obtain ⟨_, rfl⟩ := h
    exact (State.Follows.refl s).same_units rfl rfl rfl rfl
  | mgmtBaseHi =>
    cases h
    exact (State.Follows.refl s).same_units rfl rfl rfl rfl
  | noticeAddrLo =>
    simp only [State.store, Bool.not_eq_true, Option.ite_none_left_eq_some, Option.some.injEq] at h
    obtain ⟨_, rfl⟩ := h
    exact (State.Follows.refl s).onNotice id
  | noticeAddrHi =>
    cases h
    exact (State.Follows.refl s).onNotice id
  | noticePort | noticeRepeat =>
    simp only [State.store, Option.map_eq_some_iff] at h
    obtain ⟨_, _, rfl⟩ := h
    exact (State.Follows.refl s).onNotice id
  | enable =>
    cases h
    exact (State.Follows.refl s).onNotice fun ⟨_, hdeadline, hmark⟩ => NoticeUnit.examine_consistent hdeadline hmark
  | clear =>
    cases h
    exact (State.Follows.refl s).onNotice fun hc => hc.clear _
  | noticeAck =>
    cases h
    exact (State.Follows.refl s).onNotice (NoticeUnit.acknowledge_consistent v)
  | matchUnit u r =>
    cases h
    refine (State.Follows.refl s).onCapture ?_
    cases u <;> exact .of_same rfl rfl rfl rfl
  | combine | trigger | capMgmt | capDefault | postCount | threshold | mode =>
    simp only [State.store, Option.map_eq_some_iff] at h
    obtain ⟨_, _, rfl⟩ := h
    exact (State.Follows.refl s).onCapture (.of_same rfl rfl rfl rfl)
  | release =>
    cases h
    refine (State.Follows.refl s).onCapture ⟨fun hb => ?_, fun hc => ⟨hc.1.tail rfl rfl, hc.2⟩⟩
    rw [List.length_tail]
    exact (Nat.sub_le _ _).trans hb
  | staging i w =>
    simp only [State.store, Option.map_eq_some_iff] at h
    obtain ⟨_, _, rfl⟩ := h
    exact (State.Follows.refl s).onWindow i _
  | _ => simp [State.store] at h

theorem State.storeUp_keepsSettings {s t : State} {x : UPort} {r : UpReg} {v : Word} (h : s.storeUp x r v = some t) :
    s.KeepsSettings t := by
  refine ⟨fun hw => hw.congr fun i => ?_, fun hs => ?_⟩
  · cases r <;> simp only [State.storeUp, Option.map_eq_some_iff, reduceCtorEq] at h
    all_goals
      obtain ⟨_, _, rfl⟩ := h
      rfl
  · obtain ⟨hsum, hrest⟩ := State.settingsInRange_iff.mp hs
    cases r <;> simp only [State.storeUp, Option.map_eq_some_iff, inRange_eq_some_iff, reduceCtorEq] at h
    case defaultAction =>
      obtain ⟨_, _, rfl⟩ := h
      refine State.settingsInRange_iff.mpr ⟨?_, hrest⟩
      cases x <;> exact hsum
    case reserve =>
      obtain ⟨k, ⟨_, hle, rfl⟩, rfl⟩ := h
      refine State.settingsInRange_iff.mpr ⟨?_, hrest⟩
      cases x <;> simp only [State.onUp_up, PerUp.modify, PerUp.get, UPort.other] at hle hsum ⊢ <;> omega

theorem State.storeDown_keepsSettings {s t : State} {n : DPort} {r : DownReg} {v : Word} (h : s.storeDown n r v = some t) :
    s.KeepsSettings t := by
  cases r <;> simp only [State.storeDown, Option.map_eq_some_iff, inRange_eq_some_iff, reduceCtorEq] at h
  all_goals
    obtain ⟨k, ⟨hlow, hhigh, rfl⟩, rfl⟩ := h
    refine .onDown n fun hd => ?_
    simp only [Downstream.SettingsInRange] at hd ⊢
    omega

theorem State.store_keepsSettings {s t : State} {r : Reg} {v : Word} (h : s.store r v = some t) : s.KeepsSettings t := by
  cases r with
  | up x r => exact State.storeUp_keepsSettings h
  | down n r => exact State.storeDown_keepsSettings h
  | mgmtPermit =>
    simp only [State.store, Option.ite_none_left_eq_some, Option.some.injEq] at h
    obtain ⟨hne, rfl⟩ := h
    refine ⟨id, fun hs => ?_⟩
    obtain ⟨hsum, hports, hcapture, hnotice, -, hbase⟩ := State.settingsInRange_iff.mp hs
    exact State.settingsInRange_iff.mpr ⟨hsum, hports, hcapture, hnotice, hne, hbase⟩
  | mgmtBaseLo =>
    simp only [State.store, Option.ite_none_right_eq_some, Option.some.injEq] at h
    obtain ⟨hlow, rfl⟩ := h
    refine ⟨id, fun hs => ?_⟩
    obtain ⟨hsum, hports, hcapture, hnotice, hpermit, -⟩ := State.settingsInRange_iff.mp hs
    refine State.settingsInRange_iff.mpr ⟨hsum, hports, hcapture, hnotice, hpermit, ?_⟩
    have hv : v.toNat % 65536 = 0 := by simpa using congrArg BitVec.toNat hlow
    simp only [BitVec.toNat_append, Nat.shiftLeft_eq, Nat.mul_comm _ (2 ^ 32), ← Nat.two_pow_add_eq_or_of_lt v.isLt]
    omega
  | mgmtBaseHi =>
    cases h
    exact ⟨id, id⟩
  | noticeAddrLo =>
    simp only [State.store, Bool.not_eq_true, Option.ite_none_left_eq_some, Option.some.injEq,
      noticeAddrRefused_eq_false_iff] at h
    obtain ⟨⟨haligned, hblock⟩, rfl⟩ := h
    refine .onNotice fun hn => ⟨hn.1, ?_⟩
    rw [withLo_toNat]
    omega
  | noticeAddrHi =>
    cases h
    refine .onNotice fun hn => ⟨hn.1, ?_⟩
    have haddr := hn.2
    rw [withHi_toNat]
    omega
  | noticePort =>
    simp only [State.store, Option.map_eq_some_iff] at h
    obtain ⟨_, _, rfl⟩ := h
    exact .onNotice id
  | noticeRepeat =>
    simp only [State.store, Option.map_eq_some_iff, inRange_eq_some_iff] at h
    obtain ⟨_, ⟨_, hle, rfl⟩, rfl⟩ := h
    exact .onNotice fun hn => ⟨hle, hn.2⟩
  | enable =>
    cases h
    exact .onNotice fun hn => .congr (NoticeUnit.examine_settings _) hn
  | clear =>
    cases h
    exact .onNotice id
  | noticeAck =>
    cases h
    exact .onNotice fun hn => .congr (NoticeUnit.acknowledge_settings _ v) hn
  | matchUnit u r =>
    cases h
    refine .onCapture fun hc => ?_
    cases u <;> exact hc
  | combine | trigger | capMgmt | capDefault | mode =>
    simp only [State.store, Option.map_eq_some_iff] at h
    obtain ⟨_, _, rfl⟩ := h
    exact .onCapture id
  | postCount =>
    simp only [State.store, Option.map_eq_some_iff, inRange_eq_some_iff] at h
    obtain ⟨_, ⟨_, hle, rfl⟩, rfl⟩ := h
    exact .onCapture fun hc => ⟨hle, hc.2⟩
  | threshold =>
    simp only [State.store, Option.map_eq_some_iff, inRange_eq_some_iff] at h
    obtain ⟨_, ⟨hpos, hle, rfl⟩, rfl⟩ := h
    exact .onCapture fun hc => ⟨hc.1, hpos, hle⟩
  | release =>
    cases h
    exact .onCapture id
  | staging i w =>
    simp only [State.store, Option.map_eq_some_iff] at h
    obtain ⟨_, _, rfl⟩ := h
    exact .onWindow i id
  | _ => simp [State.store] at h

/-! ### The control word and the command word -/

/-- A record that a COMMIT installs is checked if it is valid (R33, R34). -/
theorem commitCheck_of_outcome {c : WindowConfig} (h : commitOutcome c = .ok) (hvalid : c.valid = true) :
    commitCheck c = .ok := by
  rwa [commitOutcome, if_pos hvalid] at h

theorem State.commitWindow_keepsSettings (s : State) (i : Fin 16) : s.KeepsSettings (s.commitWindow i) := by
  refine .onWindow i fun hw => ?_
  split
  · next hok => exact commitCheck_of_outcome hok
  · exact hw

theorem State.disableWindow_keepsSettings (s : State) (i : Fin 16) : s.KeepsSettings (s.disableWindow i) :=
  .onWindow i fun _ hvalid => nomatch hvalid

theorem State.runControl_keepsSettings (s : State) (i : Fin 16) (v : Word) : s.KeepsSettings (s.runControl i v) := by
  unfold State.runControl
  split
  · exact s.commitWindow_keepsSettings i
  · split
    · exact s.disableWindow_keepsSettings i
    · exact .refl s

theorem State.runControl_follows (s : State) (i : Fin 16) (v : Word) : s.Follows (s.runControl i v) := by
  unfold State.runControl
  split
  · exact (State.Follows.refl s).onWindow i _
  · split
    · exact (State.Follows.refl s).onWindow i _
    · exact .refl s

theorem State.clearCounters_settings (s : State) : s.clearCounters.settings = s.settings := by
  have hwindows : (s.windows.map WindowEntry.clearHits).toList.map WindowEntry.settings
      = s.windows.toList.map WindowEntry.settings := by
    rw [Vector.toList_map, List.map_map]
    rfl
  simp only [State.settings, State.clearCounters, hwindows]
  rfl

theorem State.clearCounters_follows (s : State) : s.Follows s.clearCounters := by
  refine ⟨fun x => ?_, fun n => ?_, .of_same rfl rfl rfl rfl, id⟩
  · cases x <;> exact ⟨rfl, id, id⟩
  · cases n <;> exact ⟨id, id⟩

theorem State.unfence_follows (s : State) (n : DPort) : s.Follows (s.unfence n) := by
  unfold State.unfence
  split
  · exact (State.Follows.refl s).onDown n ⟨id, id⟩
  · exact .refl s

theorem State.unfence_settings (s : State) (n : DPort) : (s.unfence n).settings = s.settings := by
  unfold State.unfence
  split
  · exact State.kept_settings (s.onDown_kept n _ fun _ => rfl)
  · rfl

theorem State.retrain_follows (s : State) (n : DPort) : s.Follows (s.retrain n) := by
  unfold State.retrain
  split
  · exact ((State.Follows.refl s).forceDown n).allocate
  · exact .refl s

theorem State.retrain_settings (s : State) (n : DPort) : (s.retrain n).settings = s.settings := by
  unfold State.retrain
  split
  · exact State.kept_settings ((State.allocate_kept _).trans (s.forceDown_kept n))
  · rfl

/-- ARM never enters TRIGGERED (R162). -/
theorem Capture.arm_follows (c : Capture) : c.Follows c.arm := by
  unfold Capture.arm
  split
  · exact .of_untriggered rfl rfl nofun
  · exact .of_untriggered rfl rfl nofun
  · exact .refl c
  · exact .refl c

theorem Capture.arm_settings (c : Capture) : c.arm.settings = c.settings := by
  unfold Capture.arm
  split <;> rfl

theorem Capture.Numbered.of_empty {c : Capture} (h : c.buffer = []) : c.Numbered := fun k r hr => by
  rw [h, List.getElem?_nil] at hr
  cases hr

theorem Capture.clear_follows (c : Capture) : c.Follows c.clear :=
  ⟨fun _ => Nat.zero_le _, fun hc => ⟨.of_empty rfl, hc.2⟩⟩

theorem State.runCommand_follows (s : State) (c : Command) (port : BitVec 8) : s.Follows (s.runCommand c port) := by
  unfold State.runCommand
  split
  · exact (State.Follows.refl s).fenceEvent _ _
  · exact s.unfence_follows _
  · exact s.retrain_follows _
  · exact .refl s
  · exact .refl s
  · exact .refl s
  · exact s.clearCounters_follows
  · exact (State.Follows.refl s).onCapture s.capture.arm_follows
  · exact (State.Follows.refl s).onCapture (.of_untriggered rfl rfl nofun)
  · exact (State.Follows.refl s).onCapture s.capture.clear_follows
  · exact .refl s

theorem State.runCommand_settings (s : State) (c : Command) (port : BitVec 8) :
    (s.runCommand c port).settings = s.settings := by
  unfold State.runCommand
  split
  · exact State.kept_settings (s.fenceEvent_kept _ _)
  · exact s.unfence_settings _
  · exact s.retrain_settings _
  · rfl
  · rfl
  · rfl
  · exact s.clearCounters_settings
  · exact State.kept_settings (s.onCapture_kept _ Capture.arm_settings)
  · rfl
  · rfl
  · rfl

theorem State.writeCommand_follows (s : State) (v : Word) : s.Follows (s.writeCommand v) := by
  have hrecord : s.Follows (s.recordCommand v) := (State.Follows.refl s).same_units rfl rfl rfl rfl
  unfold State.writeCommand
  split
  · exact hrecord.trans (State.runCommand_follows _ _ _)
  · exact hrecord

theorem State.writeCommand_settings (s : State) (v : Word) : (s.writeCommand v).settings = s.settings := by
  unfold State.writeCommand
  split
  · exact State.runCommand_settings _ _ _
  · rfl

/-! ### The access as a whole -/

/-- What follows from a value taken, and nothing where it is refused. -/
theorem State.elim_store_follows (s : State) (r : Reg) (v : Word) {f : State → State}
    (hf : ∀ t : State, s.Follows t → s.Follows (f t)) : s.Follows ((s.store r v).elim s f) := by
  cases hstore : s.store r v with
  | none => exact .refl s
  | some t => exact hf t (State.store_follows hstore)

theorem State.elim_store_keepsSettings (s : State) (r : Reg) (v : Word) {f : State → State}
    (hf : ∀ t : State, (f t).kept = t.kept) : s.KeepsSettings ((s.store r v).elim s f) := by
  cases hstore : s.store r v with
  | none => exact .refl s
  | some t => exact (State.store_keepsSettings hstore).trans (.of_kept (hf t))

theorem getD_eq_elim {α : Type} (o : Option α) (a : α) : o.getD a = o.elim a id := by cases o <;> rfl

theorem State.access_follows (s : State) (r : Reg) (v : Word) : s.Follows (s.access r v) := by
  unfold State.access
  split
  · exact s.runControl_follows _ v
  · exact s.writeCommand_follows v
  · exact s.elim_store_follows _ v fun _ ht => ht.allocate
  · exact s.elim_store_follows _ v fun _ ht => ht.orphanTestEvent _
  · rw [getD_eq_elim]
    exact s.elim_store_follows r v fun _ ht => ht

theorem State.access_keepsSettings (s : State) (r : Reg) (v : Word) : s.KeepsSettings (s.access r v) := by
  unfold State.access
  split
  · exact s.runControl_keepsSettings _ v
  · exact .of_settings (s.writeCommand_settings v)
  · exact s.elim_store_keepsSettings _ v State.allocate_kept
  · exact s.elim_store_keepsSettings _ v fun t => t.orphanTestEvent_kept _
  · rw [getD_eq_elim]
    exact s.elim_store_keepsSettings r v fun _ => rfl

end Sys2Proof.Machine
end

section
/-! PROOFS. Every step keeps every unit legal (O55): soft reset and power-on, the dispatch of a head, the links of the upstream
ports, and every command. -/

namespace Sys2Proof.Machine

/-! ### The resolution of a head -/

/-- Every unit stays legal: the statement's six invariants, each from itself (R15, R34, R45, R71, R157, R169). -/
structure State.KeepsLegal (s t : State) : Prop extends s.KeepsSettings t where
  queues  : s.QueuesBounded → t.QueuesBounded
  credits : s.CreditsInRange → t.CreditsInRange
  notice  : s.NoticeConsistent → t.NoticeConsistent
  capture : s.CaptureConsistent → t.CaptureConsistent

namespace State.KeepsLegal

variable {s t : State}

theorem refl (s : State) : s.KeepsLegal s := ⟨.refl s, id, id, id, id⟩

theorem trans {r : State} (h : s.KeepsLegal t) (h' : t.KeepsLegal r) : s.KeepsLegal r :=
  ⟨h.toKeepsSettings.trans h'.toKeepsSettings, h'.queues ∘ h.queues, h'.credits ∘ h.credits, h'.notice ∘ h.notice,
    h'.capture ∘ h.capture⟩

theorem of_follows (h : s.Follows t) (hsettings : s.KeepsSettings t) : s.KeepsLegal t :=
  ⟨hsettings,
    fun ⟨hup, hdown, hbuffer⟩ => ⟨fun x => (h.up x).queues (hup x), fun n => (h.down n).queue (hdown n),
      h.capture.buffer hbuffer⟩,
    fun ⟨hup, hdown⟩ => ⟨fun x => (h.up x).credits (hup x), fun n => (h.down n).credits (hdown n)⟩,
    h.notice, h.capture.consistent⟩

theorem of_kept (h : s.Follows t) (hkept : t.kept = s.kept) : s.KeepsLegal t := of_follows h (.of_kept hkept)

end State.KeepsLegal

/-! ### Soft reset -/

theorem State.Follows.clearFences {s t : State} (h : s.Follows t) :
    s.Follows { t with down := t.down.map Downstream.clearFence } := by
  refine h.trans ⟨fun _ => .refl _, fun n => ?_, .refl _, id⟩
  rw [PerDown.get_map]
  exact ⟨id, id⟩

theorem State.Follows.softDownstream {s t : State} (h : s.Follows t) : s.Follows t.softDownstream :=
  (h.foldl (fun _ n hr => hr.forceDown n) DPort.all).clearFences

theorem State.Follows.softAnswer {s t : State} (h : s.Follows t) {x : UPort} (hx : (s.up.get x).Linked) (r : Request) :
    s.Follows (t.softAnswer x r) :=
  (h.answer x r _).onUp_of_linked hx rfl id rfl

theorem State.Follows.softQueue {s t : State} (h : s.Follows t) (x : UPort) : s.Follows (t.softQueue x) := by
  have hanswered : s.Follows ((t.up.get x).ingress.foldl (State.softAnswer x) t) := by
    by_cases hempty : (t.up.get x).ingress = []
    · rw [hempty]
      exact h
    · exact h.foldl (fun _ r hr => hr.softAnswer (h.linked (Upstream.linked_of_ingress hempty)) r) _
  exact hanswered.onUp x ⟨rfl, fun hq => ⟨Nat.zero_le _, hq.2⟩,
    fun ⟨hcredits, hempty⟩ => ⟨hcredits, fun hdown =>
      have ⟨hnone, howed, _⟩ := hempty hdown
      ⟨hnone, howed, rfl⟩⟩⟩

theorem NoticeUnit.soft_consistent (u : NoticeUnit) : u.soft.Consistent := ⟨fun _ => BitVec.zero_and, nofun, nofun⟩

theorem State.Follows.softValues {s t : State} (h : s.Follows t) : s.Follows t.softValues := by
  refine h.trans ⟨fun x => ?_, fun n => ?_, ⟨fun _ => Nat.zero_le _, fun _ => ⟨.of_empty rfl, nofun⟩⟩,
    fun _ => NoticeUnit.soft_consistent _⟩
  · cases x <;> exact ⟨rfl, id, id⟩
  · cases n <;> exact ⟨id, id⟩

theorem State.softReset_follows {s : State} {x : UPort} (hx : (s.up.get x).Linked) (r : Request) (v : Word) :
    s.Follows (s.softReset x r v) := by
  have hpopped : s.Follows (((s.recordCommand v).answer x r .ok).popHead x) :=
    (((State.Follows.refl s).same_units (r := s.recordCommand v) rfl rfl rfl rfl).answer x r .ok).popHead hx
  exact (((((hpopped.softDownstream).softQueue .u0).softQueue .u1).softValues).countUp x _).handRequest _

theorem State.clearFences_settings (s : State) :
    ({ s with down := s.down.map Downstream.clearFence } : State).settings = s.settings := rfl

theorem State.softDownstream_settings (s : State) : s.softDownstream.settings = s.settings :=
  (State.clearFences_settings _).trans
    (State.kept_settings (foldl_keeps State.kept _ State.forceDown_kept DPort.all s))

theorem State.windowsChecked_of_zero {s : State} (h : s.windows = Vector.replicate 16 WindowEntry.zero) : s.WindowsChecked := by
  intro i hvalid
  rw [State.window, h, Vector.getElem_replicate] at hvalid
  cases hvalid

theorem State.softValues_keepsSettings (s : State) : s.KeepsSettings s.softValues := by
  refine ⟨fun _ => State.windowsChecked_of_zero rfl, fun hs => ?_⟩
  obtain ⟨hsum, hports, hcapture, hnotice, hrest⟩ := State.settingsInRange_iff.mp hs
  refine State.settingsInRange_iff.mpr ⟨hsum, fun n => ?_, hcapture, hnotice, hrest⟩
  exact Downstream.SettingsInRange.congr (by cases n <;> rfl) (hports n)

theorem State.softReset_keepsSettings (s : State) (x : UPort) (r : Request) (v : Word) :
    s.KeepsSettings (s.softReset x r v) := by
  have hbefore : s.KeepsSettings
      (((((s.recordCommand v).answer x r .ok).popHead x).softDownstream.softQueue .u0).softQueue .u1) := by
    refine .of_settings ?_
    rw [State.kept_settings (State.softQueue_kept _ _), State.kept_settings (State.softQueue_kept _ _),
      State.softDownstream_settings, State.kept_settings (State.popHead_kept _ _),
      State.kept_settings (State.answer_kept _ _ _ _)]
    rfl
  exact (hbefore.trans (State.softValues_keepsSettings _)).trans
    (.of_kept ((State.handRequest_kept _ _).trans (State.countUp_kept _ _ _)))

/-! ### Dispatch -/

theorem State.performWrite_keepsLegal {s : State} {x : UPort} (hx : (s.up.get x).Linked) (r : Request) (reg : Reg) (v : Word) :
    s.KeepsLegal (s.performWrite x r reg v) := by
  have haccess (status : Status) (d : Disposition) (cause : Option Cause) :
      s.KeepsLegal (((s.answer x r status).access reg v).resolveHead x r .mgmt d cause none) := by
    have hanswered := (State.Follows.refl s).answer x r status
    refine .of_follows ((hanswered.trans (State.access_follows _ reg v)).resolveHead hx r _ d cause none) ?_
    exact ((State.KeepsSettings.of_kept (s.answer_kept x r status)).trans (State.access_keepsSettings _ reg v)).trans
      (.of_kept (State.resolveHead_kept _ _ _ _ _ _ _))
  unfold State.performWrite
  split
  · exact .of_follows (State.softReset_follows hx r v) (s.softReset_keepsSettings x r v)
  · split
    · exact haccess .ok .mgmtDone none
    · exact haccess .denied .denied _

theorem State.Follows.zeroFill {s t : State} (h : s.Follows t) {x : UPort} (hx : (s.up.get x).Linked) (r : Request) :
    s.Follows (t.zeroFill x r) := by
  unfold State.zeroFill
  refine State.Follows.resolveHead ?_ hx _ _ _ _ _
  split
  · exact h.placeParts x _
  · exact h.placePart x _
  · exact h

/-- A head that is no management write is resolved, or waits until the allocation event forwards it (R48 to R56). -/
theorem State.resolveOutcome_follows {s : State} {x : UPort} (hx : (s.up.get x).Linked) (r : Request) {o : HeadOutcome}
    (ho : ∀ reg v, o ≠ .mgmtWrite reg v) : s.Follows (s.resolveOutcome x r o) := by
  have h := State.Follows.refl s
  cases o with
  | rejected => exact h.resolveHead hx r _ _ _ _
  | illFormed => exact h.refuseHead hx r _ _ _
  | mgmtRefused d status => exact h.refuseHead hx r _ _ _
  | mgmtRead reg => exact (h.placePart x _).resolveHead hx r _ _ _ _
  | mgmtWrite reg v => exact absurd rfl (ho reg v)
  | windowDenied i mode => exact (h.onWindow i _).refuseHead hx r _ _ _
  | unavailable i mode => exact (h.onWindow i _).refuseHead hx r _ _ _
  | forward d => exact ((h.onWindow d.window _).onUp x ⟨rfl, id, id⟩).allocate
  | noHit a =>
    cases a with
    | unmappedError => exact h.refuseHead hx r _ _ _
    | zeroFill => exact h.zeroFill hx r

theorem State.resolveOutcome_keepsLegal {s : State} {x : UPort} (hx : (s.up.get x).Linked) (r : Request) (o : HeadOutcome) :
    s.KeepsLegal (s.resolveOutcome x r o) := by
  by_cases ho : ∃ reg v, o = .mgmtWrite reg v
  · obtain ⟨reg, v, rfl⟩ := ho
    exact State.performWrite_keepsLegal hx r reg v
  · have hne : ∀ reg v, o ≠ .mgmtWrite reg v := fun reg v heq => ho ⟨reg, v, heq⟩
    exact .of_kept (State.resolveOutcome_follows hx r hne) (s.resolveOutcome_kept x r o hne)

theorem State.linked_of_headOutcome {s : State} {x : UPort} {r : Request} {o : HeadOutcome}
    (h : s.headOutcome x = some (r, o)) : (s.up.get x).Linked := by
  simp only [State.headOutcome, Option.map_eq_some_iff, Prod.mk.injEq] at h
  obtain ⟨q, hhead, -⟩ := h
  exact Upstream.linked_of_ingress (State.ingress_of_undecodedHead hhead)

theorem State.dispatch_keepsLegal (s : State) (x : UPort) : s.KeepsLegal (s.dispatch x) := by
  unfold State.dispatch
  split
  · next hhead => exact State.resolveOutcome_keepsLegal (State.linked_of_headOutcome hhead) _ _
  · exact .refl s

theorem State.dispatchWrite_keepsLegal (s : State) (x : UPort) (row : Reg → Word → Bool) :
    s.KeepsLegal (s.dispatchWrite x row) := by
  unfold State.dispatchWrite
  split
  · next hhead =>
    split
    · exact State.resolveOutcome_keepsLegal (State.linked_of_headOutcome hhead) _ _
    · exact .refl s
  · exact .refl s

theorem State.forwardHead_keepsLegal (s : State) (x : UPort) : s.KeepsLegal (s.forwardHead x) := by
  unfold State.forwardHead
  split
  · next hhead => exact State.resolveOutcome_keepsLegal (State.linked_of_headOutcome hhead) _ _
  · exact .refl s
  · split
    · exact .of_kept (State.Follows.refl s).allocate s.allocate_kept
    · exact .refl s

/-! ### Links of the upstream ports, and power-on -/

/-- A change of an upstream port that may change its link. -/
theorem State.KeepsLegal.onUp (s : State) (x : UPort) {f : Upstream → Upstream}
    (hsettings : ∀ u, (f u).settings = u.settings)
    (hqueues : (s.up.get x).QueuesBounded → (f (s.up.get x)).QueuesBounded)
    (hcredits : (s.up.get x).CreditsInRange → (f (s.up.get x)).CreditsInRange) : s.KeepsLegal (s.onUp x f) := by
  refine ⟨.of_kept (s.onUp_kept x f hsettings), fun ⟨hup, hrest⟩ => ⟨fun y => ?_, hrest⟩,
    fun ⟨hup, hrest⟩ => ⟨fun y => ?_, hrest⟩, id, id⟩
  · rw [State.onUp_up, PerUp.get_modify]
    split
    · next hy => exact hy ▸ hqueues (hup x)
    · exact hup y
  · rw [State.onUp_up, PerUp.get_modify]
    split
    · next hy => exact hy ▸ hcredits (hup x)
    · exact hup y

theorem State.raise_keepsLegal (s : State) (c : Cause) : s.KeepsLegal (s.raise c) :=
  .of_kept ((State.Follows.refl s).raise c) (s.raise_kept c)

theorem State.upstreamLinkUp_keepsLegal (s : State) (x : UPort) : s.KeepsLegal (s.upstreamLinkUp x) := by
  unfold State.upstreamLinkUp
  split
  · exact .refl s
  · refine State.KeepsLegal.trans ?_ (State.raise_keepsLegal _ _)
    exact .onUp s x (fun _ => rfl) (fun _ => ⟨Nat.zero_le _, Nat.zero_le _⟩) fun _ => ⟨Nat.zero_le _, nofun⟩

theorem State.Follows.departEntry {s t : State} (h : s.Follows t) (x : UPort) (k : Fin 128) :
    s.Follows (t.departEntry x k) := by
  unfold State.departEntry
  split
  · exact h
  · split
    · exact (h.dropItem k).release k
    · exact h.orphan k
    · exact h.orphan k
    · exact h
    · exact h

/-- The port first, then what its departure does to the rest of the bridge (R66, R90). -/
theorem State.upstreamLinkDown_keepsLegal (s : State) (x : UPort) : s.KeepsLegal (s.upstreamLinkDown x) := by
  unfold State.upstreamLinkDown
  split
  · exact .refl s
  · have hport : s.KeepsLegal (s.onUp x fun u =>
        { u with
          link := .down
          ingress := []
          waiting := none
          returnQueue := []
          pendingCredits := 0
          credits := 0
          counters := { u.counters with linkDowns := satInc u.counters.linkDowns } }) :=
      .onUp s x (fun _ => rfl) (fun _ => ⟨Nat.zero_le _, Nat.zero_le _⟩)
        fun _ => ⟨Nat.zero_le _, fun _ => ⟨rfl, rfl, rfl⟩⟩
    refine (hport.trans (State.raise_keepsLegal _ (.linkChangeU x))).trans (.of_kept ?_ ?_)
    · refine State.Follows.allocate (State.Follows.foldl (State.Follows.foldl ?_ (fun _ k hr => hr.departEntry x k)
        ottIndices) (fun _ n hr => hr.orphanTest n) DPort.all)
      split
      · exact (State.Follows.refl _).handRequest _
      · exact .refl _
    · simp only [State.allocate_kept, foldl_keeps State.kept _ State.orphanTest_kept,
        foldl_keeps State.kept _ (State.departEntry_kept x)]
      split
      · exact State.handRequest_kept _ _
      · rfl

/-- The base that the strap gives is a multiple of 64 KiB (R42). -/
theorem strapBase_aligned (msel : BitVec 4) : (State.powerOn msel).mgmtBase.toNat % 65536 = 0 := by
  revert msel
  decide

/-- The ports, the capture unit and the notice unit hold their power-on values, and every window record is zero (R190). -/
theorem State.keepsLegal_of_powerOn {t : State} (msel : BitVec 4) (hup : t.up = (State.powerOn msel).up)
    (hdown : t.down = (State.powerOn msel).down) (hwindows : t.windows = (State.powerOn msel).windows)
    (hcapture : t.capture = Capture.powerOn) (hnotice : t.notice = NoticeUnit.powerOn) (hpermit : t.mgmtPermit = 0b01)
    (hbase : t.mgmtBase = (State.powerOn msel).mgmtBase) (s : State) : s.KeepsLegal t := by
  have hupget : ∀ x, t.up.get x = Upstream.powerOn := fun x => by rw [hup]; cases x <;> rfl
  have hdownget : ∀ n, t.down.get n = Downstream.powerOn := fun n => by rw [hdown]; cases n <;> rfl
  have hsettings : t.SettingsInRange := by
    refine State.settingsInRange_iff.mpr ⟨?_, fun n => ?_, ?_, ?_, ?_, ?_⟩
    · rw [hupget, hupget]
      decide
    · rw [hdownget, Downstream.SettingsInRange]
      decide
    · rw [hcapture, Capture.SettingsInRange]
      decide
    · rw [hnotice, NoticeUnit.SettingsInRange]
      decide
    · rw [hpermit]
      decide
    · rw [hbase]
      exact strapBase_aligned msel
  have hqueues : t.QueuesBounded :=
    ⟨fun x => by rw [hupget]; decide, fun n => by rw [hdownget]; decide, by rw [hcapture]; decide⟩
  have hcredits : t.CreditsInRange := ⟨fun x => by rw [hupget]; decide, fun n => by rw [hdownget]; decide⟩
  have hquiet : t.NoticeConsistent := by
    rw [State.NoticeConsistent, hnotice]
    decide
  have hempty : t.CaptureConsistent := by
    rw [State.CaptureConsistent, hcapture]
    exact ⟨Capture.Numbered.of_empty rfl, nofun⟩
  exact ⟨⟨fun _ => State.windowsChecked_of_zero hwindows, fun _ => hsettings⟩, fun _ => hqueues, fun _ => hcredits,
    fun _ => hquiet, fun _ => hempty⟩

theorem State.powered_keepsLegal (s : State) (msel : BitVec 4) : s.KeepsLegal (s.powered msel) :=
  State.keepsLegal_of_powerOn (t := s.powered msel) msel rfl rfl rfl rfl rfl rfl rfl s

/-! ### The commands -/

theorem State.KeepsLegal.of_running {s t : State} {f : State → State} (hf : ∀ s : State, s.KeepsLegal (f s))
    (h : whileRunning s f = .next t) : s.KeepsLegal t := by
  simp only [whileRunning, Host.Outcome.next.injEq] at h
  subst h
  split
  · exact .refl s
  · exact hf s

theorem State.KeepsLegal.of_write {s t : State} {x : UPort} {row : Reg → Word → Bool}
    (h : whileRunning s (fun s => s.dispatchWrite x row) = .next t) : s.KeepsLegal t :=
  .of_running (fun s => s.dispatchWrite_keepsLegal x row) h

/-- A transmitter takes a message of the kind the arbiter chooses, of a port that is UP (R121). -/
theorem State.KeepsLegal.of_chosen {s t : State} {x : UPort} {c : Candidate} {f : State → State}
    (hf : ∀ s : State, (s.up.get x).link = .up → s.Follows (f s)) (hkept : ∀ s, (f s).kept = s.kept)
    (h : whileRunning s (fun s => if s.arbiterChoice x = some c then f s else s) = .next t) : s.KeepsLegal t := by
  refine .of_running (fun s => ?_) h
  split
  · next hchosen =>
    have hup : (s.up.get x).link = .up := by_contra fun hdown => by simp [State.arbiterChoice, hdown] at hchosen
    exact .of_kept (hf s hup) (hkept s)
  · exact .refl s

/-- Every command keeps every unit legal. -/
theorem exec_keepsLegal {c : Instr} {s t : State} (h : exec c s = .next t) : s.KeepsLegal t := by
  cases c with
  | powerOnReset msel =>
    cases h
    exact s.powered_keepsLegal msel
  | resetNAsserted =>
    cases h
    exact State.keepsLegal_of_powerOn (t := { s.powered s.strap with held := true }) s.strap rfl rfl rfl rfl rfl rfl rfl
      s
  | upstreamLinkUp x => exact .of_running (fun s => s.upstreamLinkUp_keepsLegal x) h
  | upstreamLinkDown x => exact .of_running (fun s => s.upstreamLinkDown_keepsLegal x) h
  | downstreamLinkUp n =>
    exact .of_running (fun s => .of_kept ((State.Follows.refl s).downstreamLinkUp n) (s.downstreamLinkUp_kept n)) h
  | downstreamLinkDown n =>
    exact .of_running (fun s => .of_kept ((State.Follows.refl s).downstreamLinkDown n) (s.downstreamLinkDown_kept n)) h
  | requestArrival _ _ | upstreamCrArrival _ _ | partArrival _ _ | downstreamCrArrival _ _ =>
    exact .of_running (fun s => .of_kept ((State.Follows.refl s).arrive _ _) (s.arrive_kept _ _)) h
  | damagedMessageArrival p bytes =>
    exact .of_running (fun s => .of_kept ((State.Follows.refl s).arriveDamaged p bytes) (s.arriveDamaged_kept p bytes)) h
  | misdirectedMessageArrival m =>
    cases m <;> exact .of_running (fun s => .of_kept ((State.Follows.refl s).arrive _ _) (s.arrive_kept _ _)) h
  | dispatch x => exact .of_running (fun s => s.dispatch_keepsLegal x) h
  | forwarding x => exact .of_running (fun s => s.forwardHead_keepsLegal x) h
  | issue n => exact .of_running (fun s => .of_kept ((State.Follows.refl s).issueHead n) (s.issueHead_kept n)) h
  | crTransmit x => exact .of_chosen (fun s hup => (State.Follows.refl s).sendCr hup) (fun s => s.sendCr_kept x) h
  | responsePartTransmit x =>
    exact .of_chosen (fun s _ => (State.Follows.refl s).sendPart x) (fun s => s.sendPart_kept x) h
  | noticeTransmit x =>
    exact .of_chosen (fun s _ => (State.Follows.refl s).sendNotice x) (fun s => s.sendNotice_kept x) h
  | expiry k => exact .of_running (fun s => .of_kept ((State.Follows.refl s).expire k) (s.expire_kept k)) h
  | repeatExpiry => exact .of_running (fun s => .of_kept (State.Follows.refl s).repeatExpire s.repeatExpire_kept) h
  | timeAdvance =>
    refine .of_running (f := State.advance) (fun s => .of_follows (State.Follows.refl s).advance ?_) h
    rcases s.advance_only with heq | heq <;> rw [heq] <;> exact ⟨id, id⟩
  | softReset _ | fenceCommand _ _ | unfence _ _ | retrain _ _ | clearCounters _ | captureArm _ | captureStop _
  | captureClear _ | unknownCommand _ _ | commit _ _ | disable _ _ | mgmtBaseLoWrite _ _ | reserveWrite _ _ _
  | orphanLimitWrite _ _ _ | enableWrite _ _ | clearWrite _ _ | noticeAck _ _ | captureRelease _ | settingWrite _ _ _ =>
    exact .of_write h

theorem step_keepsLegal {s t : State} (h : step s = .next t) : s.KeepsLegal t := by
  unfold step at h
  split at h
  · cases h
    exact .refl s
  · next rest _ =>
    have hrest : s.KeepsLegal { s with pending := rest } := ⟨⟨id, id⟩, id, id, id, id⟩
    exact hrest.trans (exec_keepsLegal h)

/-- Settles O55: each of the six invariants is kept by every command, from itself alone. -/
theorem stepsKeepEachUnitLegal : Obligations.StepsKeepEachUnitLegal :=
  ⟨fun _ _ h => ⟨(step_keepsLegal h).windows, (step_keepsLegal h).settings⟩,
    fun _ _ h => ⟨(step_keepsLegal h).queues, (step_keepsLegal h).credits⟩,
    fun _ _ h => ⟨(step_keepsLegal h).notice, (step_keepsLegal h).capture⟩⟩

end Sys2Proof.Machine
end

section
/-! PROOFS. Windows: the search (R23), the checks of a COMMIT (R34), and what a checked window makes of an address (R22, R25 to
R27). -/

namespace Sys2Proof.Machine

/-! ### The window search (R23) -/

theorem State.selects_iff {s : State} {x : UPort} {a : Addr} {i : Fin 16} :
    s.selects x a i = true ↔ (s.window i).active.valid = true ∧ (s.window i).active.sources.getLsbD x.code = true
      ∧ a &&& (s.window i).active.mask = (s.window i).active.base := by
  simp only [State.selects, WindowConfig.hitBy, Bool.and_eq_true, beq_iff_eq, and_assoc]

theorem State.windowSearch_eq_some_iff {s : State} {x : UPort} {a : Addr} {i : Fin 16} :
    s.windowSearch x a = some i ↔ s.selects x a i = true ∧ ∀ j, j < i → ¬ s.selects x a j = true := by
  simp only [State.windowSearch, ← Fin.find?_eq_find?_finRange, Fin.find?_eq_some_iff, Bool.not_eq_true]

theorem State.windowSearch_eq_none_iff {s : State} {x : UPort} {a : Addr} :
    s.windowSearch x a = none ↔ ∀ j, ¬ s.selects x a j = true := by
  simp only [State.windowSearch, ← Fin.find?_eq_find?_finRange, Fin.find?_eq_none_iff, Bool.not_eq_true]

/-- Settles O24: the search is the first index of its test in ascending order. -/
theorem windowSearchTakesTheLowestHit : Obligations.WindowSearchTakesTheLowestHit := fun x a s => by
  simp only [← State.selects_iff]
  exact ⟨fun i => State.windowSearch_eq_some_iff, State.windowSearch_eq_none_iff⟩

/-! ### The shape of MASK (R22) -/

theorem topMask_toNat {k : Nat} (h : k ≤ 48) : (topMask k).toNat = 2 ^ 48 - 2 ^ (48 - k) := by
  have hsplit : 2 ^ 48 = 2 ^ (48 - k) * 2 ^ k := by rw [← Nat.pow_add, Nat.sub_add_cancel h]
  have hpos : 0 < 2 ^ (48 - k) := Nat.two_pow_pos _
  have hpos' : 0 < 2 ^ k := Nat.two_pow_pos _
  have hshift : (2 ^ 48 - 1) * 2 ^ (48 - k) = (2 ^ 48 - 2 ^ (48 - k)) + 2 ^ 48 * (2 ^ (48 - k) - 1) := by
    have hle : 2 ^ (48 - k) ≤ 2 ^ 48 := Nat.pow_le_pow_right (by decide) (Nat.sub_le _ _)
    generalize 2 ^ (48 - k) = p at *
    omega
  rw [topMask, BitVec.toNat_shiftLeft, BitVec.toNat_allOnes, Nat.shiftLeft_eq, hshift, Nat.add_mul_mod_self_left,
    Nat.mod_eq_of_lt (Nat.sub_lt (by decide) hpos)]

theorem topMask_eq_iff {k : Nat} (h : k ≤ 36) {mask : Addr} :
    topMask k = mask ↔ mask.toNat = 2 ^ 48 - 2 ^ (48 - k) := by
  rw [← BitVec.toNat_inj, topMask_toNat (h.trans (by decide)), eq_comm]

theorem topMask_inj {j k : Nat} (hj : j ≤ 36) (hk : k ≤ 36) (h : topMask j = topMask k) : j = k := by
  rw [topMask_eq_iff hj, topMask_toNat (hk.trans (by decide))] at h
  have hle (i : Nat) : 2 ^ (48 - i) ≤ 2 ^ 48 := Nat.pow_le_pow_right (by decide) (Nat.sub_le _ _)
  have hpow : 2 ^ (48 - k) = 2 ^ (48 - j) := by
    have := hle j
    have := hle k
    omega
  have := Nat.pow_right_injective le_rfl hpow
  omega

theorem maskOnes_eq_some_iff {mask : Addr} {k : Nat} :
    maskOnes mask = some k ↔ k ≤ 36 ∧ mask.toNat = 2 ^ 48 - 2 ^ (48 - k) := by
  rw [maskOnes, List.find?_range_eq_some]
  simp only [beq_iff_eq, List.mem_range, Bool.not_eq_true', beq_eq_false_iff_ne]
  constructor
  · rintro ⟨hmask, hk, -⟩
    exact ⟨by omega, (topMask_eq_iff (by omega)).mp hmask⟩
  · rintro ⟨hk, hmask⟩
    have htop := (topMask_eq_iff hk).mpr hmask
    refine ⟨htop, by omega, fun j hj heq => ?_⟩
    exact absurd (topMask_inj (by omega) hk (heq.trans htop.symm)) (by omega)

theorem maskOnes_eq_none_iff {mask : Addr} :
    maskOnes mask = none ↔ ∀ k, k ≤ 36 → mask.toNat ≠ 2 ^ 48 - 2 ^ (48 - k) := by
  rw [Option.eq_none_iff_forall_ne_some]
  simp only [ne_eq, maskOnes_eq_some_iff, not_and]

/-! ### The checks of a COMMIT (R34) -/

/-- A spread set of 2 members has one selecting bit, and one of 4 has two. -/
theorem selectBits_eq {set : BitVec 4} (h : (spreadMembers set).length = 2 ∨ (spreadMembers set).length = 4) :
    selectBits set = (spreadMembers set).length / 2 := by
  rcases h with h | h <;> simp [selectBits, h]

/-- The checks after that of the shape of MASK. -/
theorem commitCheck_of_mask {c : WindowConfig} {k : Nat} (hk : k ≤ 36) (hmask : c.mask.toNat = 2 ^ 48 - 2 ^ (48 - k)) :
    commitCheck c =
      if c.base &&& ~~~ c.mask ≠ 0 then .baseAlign
      else if c.targetKind ≠ .refuse ∧ c.xbase &&& ~~~ c.mask ≠ 0 then .xbaseAlign
      else if c.sources = 0 then .noSource
      else if c.targetKind = .port ∧ 4 ≤ c.portNumber.toNat
          ∨ c.targetKind = .spread
            ∧ ¬ ((spreadMembers c.spreadSet).length = 2 ∨ (spreadMembers c.spreadSet).length = 4) then
        .badTarget
      else if c.targetKind = .spread
          ∧ (c.select.toNat < 8 ∨ 48 - k ≤ c.select.toNat + (spreadMembers c.spreadSet).length / 2 - 1) then
        .badSelect
      else if c.targetKind ≠ .refuse ∧ c.permit = 0 then .noPermit
      else .ok := by
  rw [commitCheck, maskOnes_eq_some_iff.mpr ⟨hk, hmask⟩]
  by_cases hset : c.targetKind = .spread
      ∧ ¬ ((spreadMembers c.spreadSet).length = 2 ∨ (spreadMembers c.spreadSet).length = 4)
  · have hbad := not_or.mp hset.2
    simp only [hset, hbad, ne_eq, not_false_eq_true, and_self, or_self, or_true, if_true]
  · by_cases hspread : c.targetKind = .spread
    · have hsize := not_not.mp fun h => hset ⟨hspread, h⟩
      simp only [selectBits_eq hsize, not_or, ne_eq]
    · simp only [hspread, false_and, not_or]

/-- With k ones in MASK the record passes the checks after the first (R34). -/
def WindowConfig.PassesWith (c : WindowConfig) (k : Nat) : Prop :=
  c.base &&& ~~~ c.mask = 0
    ∧ (c.targetKind ≠ .refuse → c.xbase &&& ~~~ c.mask = 0)
    ∧ c.sources ≠ 0
    ∧ (c.targetKind = .port → c.portNumber.toNat < 4)
    ∧ (c.targetKind = .spread →
      ((spreadMembers c.spreadSet).length = 2 ∧ c.select.toNat < 48 - k
        ∨ (spreadMembers c.spreadSet).length = 4 ∧ c.select.toNat + 1 < 48 - k)
      ∧ 8 ≤ c.select.toNat)
    ∧ (c.targetKind ≠ .refuse → c.permit ≠ 0)

theorem passesWith_of_commitCheck {c : WindowConfig} {k : Nat} (hk : k ≤ 36)
    (hmask : c.mask.toNat = 2 ^ 48 - 2 ^ (48 - k)) (h : commitCheck c = .ok) : c.PassesWith k := by
  rw [commitCheck_of_mask hk hmask] at h
  split_ifs at h with hbase hxbase hsources htarget hselect hpermit
  refine ⟨not_not.mp hbase, fun hkind => ?_, hsources, fun hkind => ?_, fun hkind => ?_, fun hkind => ?_⟩
  · exact not_not.mp fun hne => hxbase ⟨hkind, hne⟩
  · exact not_le.mp fun hle => htarget (.inl ⟨hkind, hle⟩)
  · have hsize := not_not.mp fun hne => htarget (.inr ⟨hkind, hne⟩)
    have hbits := not_or.mp fun hle => hselect ⟨hkind, hle⟩
    omega
  · exact fun hzero => hpermit ⟨hkind, hzero⟩

theorem commitCheck_of_passesWith {c : WindowConfig} {k : Nat} (hk : k ≤ 36)
    (hmask : c.mask.toNat = 2 ^ 48 - 2 ^ (48 - k)) (h : c.PassesWith k) : commitCheck c = .ok := by
  obtain ⟨hbase, hxbase, hsources, hport, hspread, hpermit⟩ := h
  have htarget : ¬ (c.targetKind = .port ∧ 4 ≤ c.portNumber.toNat ∨ c.targetKind = .spread
      ∧ ¬ ((spreadMembers c.spreadSet).length = 2 ∨ (spreadMembers c.spreadSet).length = 4)) := by
    rintro (⟨hkind, hle⟩ | ⟨hkind, hsize⟩)
    · exact absurd (hport hkind) (by omega)
    · have := hspread hkind
      omega
  have hselect : ¬ (c.targetKind = .spread
      ∧ (c.select.toNat < 8 ∨ 48 - k ≤ c.select.toNat + (spreadMembers c.spreadSet).length / 2 - 1)) := by
    rintro ⟨hkind, hbits⟩
    have := hspread hkind
    omega
  rw [commitCheck_of_mask hk hmask, if_neg (not_not.mpr hbase), if_neg fun hx => hx.2 (hxbase hx.1), if_neg hsources,
    if_neg htarget, if_neg hselect, if_neg fun hp => hpermit hp.1 hp.2]

/-- All seven checks pass for the records that R34 admits. -/
theorem commitCheck_eq_ok_iff {c : WindowConfig} :
    commitCheck c = .ok ↔ ∃ k : Nat, k ≤ 36 ∧ c.mask.toNat = 2 ^ 48 - 2 ^ (48 - k) ∧ c.PassesWith k := by
  constructor
  · intro h
    cases hones : maskOnes c.mask with
    | none =>
      rw [commitCheck, hones] at h
      cases h
    | some k =>
      obtain ⟨hk, hmask⟩ := maskOnes_eq_some_iff.mp hones
      exact ⟨k, hk, hmask, passesWith_of_commitCheck hk hmask h⟩
  · rintro ⟨k, hk, hmask, h⟩
    exact commitCheck_of_passesWith hk hmask h

/-- Settles O39: the shape of MASK decides the first check, and the number of its ones the rest. -/
theorem commitChecksSayWhatIsInstalled : Obligations.CommitChecksSayWhatIsInstalled := by
  refine ⟨fun c => commitCheck_eq_ok_iff, fun c => ⟨fun h => ?_, fun k hk hmask => commitCheck_of_mask hk hmask⟩⟩
  rw [commitCheck, maskOnes_eq_none_iff.mpr h]

/-! ### What a checked window makes of an address (R25 to R27) -/

/-- An address that hits a window is BASE and its offset bits. -/
theorem sub_eq_offset_of_hit {a mask base : Addr} (h : a &&& mask = base) : a - base = a &&& ~~~ mask := by
  have hdisjoint : (a &&& mask) &&& (a &&& ~~~ mask) = 0#48 := by
    ext i hi
    simp +contextual
  have hsum : base + (a &&& ~~~ mask) = a := by
    rw [← h, BitVec.add_eq_or_of_and_eq_zero _ _ hdisjoint]
    ext i hi
    simp only [BitVec.getElem_or, BitVec.getElem_and, BitVec.getElem_not]
    cases a[i] <;> cases mask[i] <;> rfl
  rw [BitVec.sub_eq_iff_eq_add, BitVec.add_comm]
  exact hsum.symm

theorem WindowConfig.translate_eq_add {c : WindowConfig} {a : Addr} (hxbase : c.xbase &&& ~~~ c.mask = 0)
    (hhit : a &&& c.mask = c.base) : c.translate a = c.xbase + (a - c.base) := by
  have hinside : c.xbase &&& c.mask = c.xbase := by
    ext i hi
    have hbit := congrArg (fun v : Addr => v[i]) hxbase
    simpa using hbit
  have hdisjoint : c.xbase &&& (a &&& ~~~ c.mask) = 0#48 := by
    rw [BitVec.and_comm a, ← BitVec.and_assoc, hxbase]
    exact BitVec.zero_and
  rw [WindowConfig.translate, hinside, sub_eq_offset_of_hit hhit, BitVec.add_eq_or_of_and_eq_zero _ _ hdisjoint]

theorem WindowConfig.egressPort_port {c : WindowConfig} (hkind : c.targetKind = .port) (hnumber : c.portNumber.toNat < 4)
    (a : Addr) : (c.egressPort a).code = c.portNumber.toNat := by
  simp only [WindowConfig.egressPort, hkind]
  generalize c.portNumber.toNat = n at hnumber
  match n, hnumber with
  | 0, _ => rfl
  | 1, _ => rfl
  | 2, _ => rfl
  | 3, _ => rfl

theorem spreadMember_pair {set : BitVec 4} {m0 m1 : DPort} (h : spreadMembers set = [m0, m1]) (k : Nat) (a : Addr) :
    spreadMember set k a = if a.getLsbD k then m1 else m0 := by
  simp only [spreadMember, h]
  cases a.getLsbD k <;> rfl

theorem spreadMember_all (k : Nat) (a : Addr) :
    (spreadMember 0b1111#4 k a).code = 2 * (a.getLsbD (k + 1)).toNat + (a.getLsbD k).toNat := by
  have hall : spreadMembers 0b1111#4 = DPort.all := by decide
  simp only [spreadMember, hall]
  cases a.getLsbD (k + 1) <;> cases a.getLsbD k <;> rfl

/-- Settles O25: BASE and XBASE lie in MASK, so that moving the window is one addition. -/
theorem validWindowTranslatesAndSpreads : Obligations.ValidWindowTranslatesAndSpreads := by
  intro c a hcheck hhit hkind
  obtain ⟨k, -, -, -, hxbase, -, hport, -, -⟩ := commitCheck_eq_ok_iff.mp hcheck
  refine ⟨WindowConfig.translate_eq_add (hxbase hkind) hhit, fun hk => WindowConfig.egressPort_port hk (hport hk) a,
    fun m0 m1 hk hset => ?_, fun hk hset => ?_⟩
  · simp only [WindowConfig.egressPort, hk]
    exact spreadMember_pair hset _ a
  · simp only [WindowConfig.egressPort, hk, hset]
    exact spreadMember_all _ a

end Sys2Proof.Machine
end

section
/-! PROOFS. What the words of window records, of match units, of the OTT view and of HEAD read (sections 11.3 to 11.5): each
field in its bits. -/

namespace Sys2Proof

/-! ### Words made of fields -/

theorem bitsAt_toNat {n lo : Nat} (v : BitVec n) (h : lo + n ≤ 32) : (bitsAt lo v).toNat = 2 ^ lo * v.toNat := by
  have hv : v.toNat < 2 ^ n := v.isLt
  have hn : 2 ^ n ≤ 2 ^ 32 := Nat.pow_le_pow_right (by decide) (by omega)
  have hfield : v.toNat * 2 ^ lo < 2 ^ 32 :=
    calc v.toNat * 2 ^ lo < 2 ^ n * 2 ^ lo := Nat.mul_lt_mul_of_pos_right hv (Nat.two_pow_pos lo)
      _ = 2 ^ (n + lo) := (Nat.pow_add 2 n lo).symm
      _ ≤ 2 ^ 32 := Nat.pow_le_pow_right (by decide) (by omega)
  rw [bitsAt, BitVec.toNat_shiftLeft, BitVec.toNat_setWidth, Nat.mod_eq_of_lt (hv.trans_le hn), Nat.shiftLeft_eq,
    Nat.mod_eq_of_lt hfield, Nat.mul_comm]

/-- The word is the number v, and its bits from b on are zero. -/
def HoldsBelow (w : Word) (b v : Nat) : Prop := w.toNat = v ∧ v < 2 ^ b

namespace HoldsBelow

theorem bits {n : Nat} (v : BitVec n) (h : n ≤ 32) : HoldsBelow (bitsAt 0 v) n v.toNat := by
  refine ⟨?_, v.isLt⟩
  rw [bitsAt_toNat v (by omega), Nat.pow_zero, Nat.one_mul]

variable {w : Word} {b v : Nat}

/-- A field that starts above the bits in use adds its value at its place. -/
theorem orBits (h : HoldsBelow w b v) (lo : Nat) {n : Nat} (x : BitVec n) (hfits : b ≤ lo ∧ lo + n ≤ 32) :
    HoldsBelow (w ||| bitsAt lo x) (lo + n) (v + 2 ^ lo * x.toNat) := by
  obtain ⟨hlo, hn⟩ := hfits
  obtain ⟨hw, hv⟩ := h
  have hbelow : v < 2 ^ lo := hv.trans_le (Nat.pow_le_pow_right (by decide) hlo)
  constructor
  · rw [BitVec.toNat_or, bitsAt_toNat x hn, hw, Nat.lor_comm, ← Nat.two_pow_add_eq_or_of_lt hbelow, Nat.add_comm]
  · calc v + 2 ^ lo * x.toNat < 2 ^ lo * (x.toNat + 1) := by rw [Nat.mul_succ]; omega
      _ ≤ 2 ^ lo * 2 ^ n := Nat.mul_le_mul_left _ x.isLt
      _ = 2 ^ (lo + n) := (Nat.pow_add 2 lo n).symm

theorem nat (n : Nat) {x : Nat} (hx : x < 2 ^ n) (h : n ≤ 32) : HoldsBelow (natAt 0 x) n x := by
  have hfield := bits (BitVec.ofNat n x) h
  rwa [← natAt_eq_bitsAt n 0 hx, BitVec.toNat_ofNat, Nat.mod_eq_of_lt hx] at hfield

theorem orNat (h : HoldsBelow w b v) (lo n : Nat) {x : Nat} (hx : x < 2 ^ n) (hfits : b ≤ lo ∧ lo + n ≤ 32) :
    HoldsBelow (w ||| natAt lo x) (lo + n) (v + 2 ^ lo * x) := by
  have hfield := h.orBits lo (BitVec.ofNat n x) hfits
  rwa [← natAt_eq_bitsAt n lo hx, BitVec.toNat_ofNat, Nat.mod_eq_of_lt hx] at hfield

theorem flag (x : Bool) : HoldsBelow (flagAt 0 x) 1 x.toNat := nat 1 (by cases x <;> decide) (by decide)

theorem orFlag (h : HoldsBelow w b v) (lo : Nat) (x : Bool) (hfits : b ≤ lo ∧ lo + 1 ≤ 32) :
    HoldsBelow (w ||| flagAt lo x) (lo + 1) (v + 2 ^ lo * x.toNat) :=
  h.orNat lo 1 (by cases x <;> decide) hfits

/-- The high word of an address leaves the upper half free (chapter 11). -/
theorem addrHi (a : Addr) : HoldsBelow (addrHi a) 16 (a.toNat / 2 ^ 32) := ⟨addrHi_toNat a, by have := a.isLt; omega⟩

end HoldsBelow

theorem UPort.code_lt (x : UPort) : x.code < 2 ^ 1 := by cases x <;> decide
theorem DPort.code_lt (n : DPort) : n.code < 2 ^ 2 := by cases n <;> decide
theorem ReqKind.code_lt (k : ReqKind) : k.code < 2 ^ 2 := by cases k <;> decide
theorem Status.code_lt (st : Status) : st.code < 2 ^ 3 := by cases st <;> decide

namespace Machine

theorem TargetKind.code_lt (k : TargetKind) : k.code < 2 ^ 2 := by cases k <;> decide
theorem CapMode.code_lt (m : CapMode) : m.code < 2 ^ 2 := by cases m <;> decide
theorem CommitStatus.code_lt (st : CommitStatus) : st.code < 2 ^ 4 := by cases st <;> decide
theorem EntryState.code_lt (st : EntryState) : st.code < 2 ^ 3 := by cases st <;> decide
theorem AnsweredKind.code_lt (k : AnsweredKind) : k.code < 2 ^ 1 := by cases k <;> decide
theorem Disposition.code_lt (d : Disposition) : d.code < 2 ^ 4 := by cases d <;> decide

/-! ### Window records and match units -/

theorem WindowConfig.word_toNat (c : WindowConfig) :
    c.word.toNat = c.valid.toNat + 2 * c.sources.toNat + 2 ^ 4 * c.targetKind.code + 2 ^ 6 * c.portNumber.toNat
      + 2 ^ 12 * c.spreadSet.toNat + 2 ^ 16 * c.select.toNat + 2 ^ 24 * c.permit.toNat + 2 ^ 28 * c.capture.code := by
  have hlow := ((HoldsBelow.flag c.valid).orBits 1 c.sources (by decide)).orNat 4 2 c.targetKind.code_lt (by decide)
  have hmiddle := ((hlow.orBits 6 c.portNumber (by decide)).orBits 12 c.spreadSet (by decide)).orBits 16 c.select (by decide)
  exact ((hmiddle.orBits 24 c.permit (by decide)).orNat 28 2 c.capture.code_lt (by decide)).1

/-- The seven words of a window record (section 11.3). -/
theorem WindowConfig.read_fields (c : WindowConfig) :
    (c.read .baseLo).toNat = c.base.toNat % 2 ^ 32 ∧ (c.read .baseHi).toNat = c.base.toNat / 2 ^ 32
    ∧ (c.read .maskLo).toNat = c.mask.toNat % 2 ^ 32 ∧ (c.read .maskHi).toNat = c.mask.toNat / 2 ^ 32
    ∧ (c.read .xbaseLo).toNat = c.xbase.toNat % 2 ^ 32 ∧ (c.read .xbaseHi).toNat = c.xbase.toNat / 2 ^ 32
    ∧ (c.read .config).toNat =
        c.valid.toNat + 2 * c.sources.toNat + 2 ^ 4 * c.targetKind.code + 2 ^ 6 * c.portNumber.toNat
          + 2 ^ 12 * c.spreadSet.toNat + 2 ^ 16 * c.select.toNat + 2 ^ 24 * c.permit.toNat + 2 ^ 28 * c.capture.code :=
  ⟨addrLo_toNat _, addrHi_toNat _, addrLo_toNat _, addrHi_toNat _, addrLo_toNat _, addrHi_toNat _, c.word_toNat⟩

/-- The six words of a match unit (section 11.5). -/
theorem MatchUnit.read_fields (m : MatchUnit) :
    (m.read .sets).toNat = m.kindSet.toNat + 2 ^ 4 * m.portSet.toNat
    ∧ (m.read .window).toNat = m.windowValue.toNat + 2 ^ 8 * m.windowCare.toNat
    ∧ (m.read .addrValueLo).toNat = m.addrValue.toNat % 2 ^ 32 ∧ (m.read .addrValueHi).toNat = m.addrValue.toNat / 2 ^ 32
    ∧ (m.read .addrCareLo).toNat = m.addrCare.toNat % 2 ^ 32 ∧ (m.read .addrCareHi).toNat = m.addrCare.toNat / 2 ^ 32 :=
  ⟨((HoldsBelow.bits m.kindSet (by decide)).orBits 4 m.portSet (by decide)).1,
    ((HoldsBelow.bits m.windowValue (by decide)).orBits 8 m.windowCare (by decide)).1,
    addrLo_toNat _, addrHi_toNat _, addrLo_toNat _, addrHi_toNat _⟩

/-! ### The OTT view -/

theorem OttEntry.word_zero {e : OttEntry} (hlen : e.len ≤ 256) :
    (e.word 0).toNat =
      e.len + 2 ^ 9 * e.state.code + 2 ^ 12 * e.src.code + 2 ^ 13 * e.kind.code + 2 ^ 14 * e.cap.toNat
        + 2 ^ 15 * e.deadline.isSome.toNat + 2 ^ 16 * e.egress.code + 2 ^ 20 * e.window.val + 2 ^ 24 * e.srcTag.toNat := by
  have hlen' : e.len < 2 ^ 9 := hlen.trans_lt (by decide)
  have hegress : e.egress.code < 2 ^ 4 := e.egress.code_lt.trans (by decide)
  have hlow := ((HoldsBelow.nat 9 hlen' (by decide)).orNat 9 3 e.state.code_lt (by decide)).orNat 12 1 e.src.code_lt (by decide)
  have hmiddle := ((hlow.orNat 13 1 e.kind.code_lt (by decide)).orFlag 14 e.cap (by decide)).orFlag 15 e.deadline.isSome
    (by decide)
  exact (((hmiddle.orNat 16 4 hegress (by decide)).orNat 20 4 e.window.isLt (by decide)).orBits 24 e.srcTag (by decide)).1

theorem OttEntry.word_two {e : OttEntry} (hreceived : e.received ≤ 256) :
    (e.word 2).toNat = e.xaddr.toNat / 2 ^ 32 + 2 ^ 16 * e.received :=
  ((HoldsBelow.addrHi e.xaddr).orNat 16 16 (hreceived.trans_lt (by decide)) (by decide)).1

/-! ### The oldest record -/

theorem State.readReg_head_empty {s : State} (h : s.capture.buffer = []) (w : Fin 8) : s.readReg (.head w) = 0 := by
  simp only [State.readReg, Capture.headWord, h]

theorem State.readReg_head_cons {s : State} {r : Record} {rest : List Record} (h : s.capture.buffer = r :: rest)
    (w : Fin 8) : s.readReg (.head w) = r.word w := by
  simp only [State.readReg, Capture.headWord, h]

theorem Record.word_one (r : Record) : r.word 1 = r.time := by
  obtain ⟨rseq, trigger, time, body⟩ := r
  cases body <;> rfl

theorem Record.word_seven (r : Record) : r.word 7 = 0 := by
  obtain ⟨rseq, trigger, time, body⟩ := r
  cases body <;> rfl

/-- The words of a REQUEST record (section 11.4). -/
theorem Record.request_fields {r : Record} {port : UPort} {tag : Tag} {kind : ReqKind} {addr : Addr} {len : BitVec 9}
    {window : BitVec 5} {disposition : Disposition} {xaddr : Option Addr} {egress : Option DPort} {ott : Option (Fin 128)}
    (h : r.body = .request port tag kind addr len window disposition xaddr egress ott) :
    (r.word 0).toNat =
        r.rseq.toNat + 2 ^ 16 + 2 ^ 18 * r.trigger.toNat + 2 ^ 19 * xaddr.isSome.toNat + 2 ^ 20 * egress.isSome.toNat
          + 2 ^ 21 * ott.isSome.toNat
    ∧ (r.word 2).toNat =
        tag.toNat + 2 ^ 8 * len.toNat + 2 ^ 17 * window.toNat + 2 ^ 22 * disposition.code + 2 ^ 26 * kind.code
          + 2 ^ 28 * port.code + 2 ^ 29 * (egress.elim 0 DPort.code)
    ∧ (r.word 3).toNat = addr.toNat % 2 ^ 32
    ∧ (r.word 4).toNat = addr.toNat / 2 ^ 32 + 2 ^ 16 * (ott.elim 0 fun k => k.val)
    ∧ (r.word 5).toNat = (xaddr.elim 0 fun a => a.toNat % 2 ^ 32)
    ∧ (r.word 6).toNat = (xaddr.elim 0 fun a => a.toNat / 2 ^ 32) := by
  obtain ⟨rseq, trigger, time, body⟩ := r
  obtain rfl : body = _ := h
  have hegress : egress.elim 0 DPort.code < 2 ^ 3 := by
    cases egress with
    | none => decide
    | some n => exact n.code_lt.trans (by decide)
  have hott : ott.elim 0 Fin.val < 2 ^ 16 := by
    cases ott with
    | none => decide
    | some k => exact k.isLt.trans (by decide)
  have hnumber := ((HoldsBelow.bits rseq (by decide)).orNat 16 2 (x := 1) (by decide) (by decide)).orFlag 18 trigger (by decide)
  have hflags := ((hnumber.orFlag 19 xaddr.isSome (by decide)).orFlag 20 egress.isSome (by decide)).orFlag 21 ott.isSome
    (by decide)
  have hlow := ((HoldsBelow.bits tag (by decide)).orBits 8 len (by decide)).orBits 17 window (by decide)
  have hcodes := (hlow.orNat 22 4 disposition.code_lt (by decide)).orNat 26 2 kind.code_lt (by decide)
  have hfields := (hcodes.orNat 28 1 port.code_lt (by decide)).orNat 29 3 hegress (by decide)
  refine ⟨hflags.1, hfields.1, addrLo_toNat addr, ((HoldsBelow.addrHi addr).orNat 16 16 hott (by decide)).1, ?_, ?_⟩
  · cases xaddr with
    | none => rfl
    | some a => exact addrLo_toNat a
  · cases xaddr with
    | none => rfl
    | some a => exact addrHi_toNat a

/-- The words of a COMPLETION record (section 11.4). -/
theorem Record.completion_fields {r : Record} {port : UPort} {tag : Tag} {ott : Fin 128} {status : Status} {bytes : Nat}
    {latency : Word} (h : r.body = .completion port tag ott status bytes latency) (hbytes : bytes ≤ 256) :
    (r.word 0).toNat = r.rseq.toNat + 2 ^ 16 * 2 + 2 ^ 18 * r.trigger.toNat + 2 ^ 21
    ∧ (r.word 2).toNat = tag.toNat + 2 ^ 8 * bytes + 2 ^ 17 * status.code + 2 ^ 28 * port.code
    ∧ r.word 3 = latency ∧ (r.word 4).toNat = 2 ^ 16 * ott.val ∧ r.word 5 = 0 ∧ r.word 6 = 0 := by
  obtain ⟨rseq, trigger, time, body⟩ := r
  obtain rfl : body = _ := h
  have hnumber := ((HoldsBelow.bits rseq (by decide)).orNat 16 2 (x := 2) (by decide) (by decide)).orFlag 18 trigger (by decide)
  have hlow := (HoldsBelow.bits tag (by decide)).orNat 8 9 (hbytes.trans_lt (by decide)) (by decide)
  have hfields := (hlow.orNat 17 3 status.code_lt (by decide)).orNat 28 1 port.code_lt (by decide)
  have hott : (natAt 16 ott.val).toNat = 2 ^ 16 * ott.val := by
    rw [natAt_eq_bitsAt 7 16 ott.isLt, bitsAt_toNat _ (by decide), BitVec.toNat_ofNat, Nat.mod_eq_of_lt ott.isLt]
  exact ⟨(hnumber.orFlag 21 true (by decide)).1, hfields.1, rfl, hott, rfl, rfl⟩

/-- Settles O22: the fields of each word lie in ascending bits, apart from each other. -/
theorem viewsReadTheirFields : Obligations.ViewsReadTheirFields := by
  refine ⟨fun i c read s h => ?_, fun i s => ⟨rfl, ?_⟩, fun u m s hm => ?_, fun k s hlen hreceived => ?_,
    fun s => ⟨State.readReg_head_empty, fun r rest hbuffer => ?_⟩⟩
  · have hread : ∀ w, read w = c.read w := by
      rcases h with ⟨rfl, hread⟩ | ⟨rfl, hread⟩ <;> exact hread
    simp only [hread]
    exact c.read_fields
  · exact (HoldsBelow.nat 4 (s.window i).status.code_lt (by decide)).1
  · have hread : ∀ r, s.readReg (.matchUnit u r) = m.read r := by
      rw [hm]
      cases u <;> exact fun _ => rfl
    simp only [hread]
    exact m.read_fields
  · exact ⟨OttEntry.word_zero hlen, addrLo_toNat _, OttEntry.word_two hreceived, rfl⟩
  · simp only [State.readReg_head_cons hbuffer]
    exact ⟨r.word_one, r.word_seven, fun _ _ _ _ _ _ _ _ _ _ h => Record.request_fields h,
      fun _ _ _ _ _ _ h hbytes => Record.completion_fields h hbytes⟩

end Machine
end Sys2Proof
end

section
/-! PROOFS. The dispatch of a head that the first steps of its decode let through (R47): accesses of the aperture (R51, R52),
heads outside it (R53, R54), and FORWARDING (R60, R61). -/

namespace Sys2Proof.Machine

/-! ### The commands that dispatch a head -/

theorem exec_dispatch {x : UPort} {s : State} (hheld : s.held = false) : exec (.dispatch x) s = .next (s.dispatch x) := by
  simp only [exec, execDispatch, whileRunning, hheld, Bool.false_eq_true, if_false]

theorem exec_forwarding {x : UPort} {s : State} (hheld : s.held = false) :
    exec (.forwarding x) s = .next (s.forwardHead x) := by
  simp only [exec, execForwarding, whileRunning, hheld, Bool.false_eq_true, if_false]

theorem State.headOutcome_of_undecoded {s : State} {x : UPort} {r : Request} (h : s.undecodedHead x = some r) :
    s.headOutcome x = some (r, s.decodeHead x r) := by
  rw [State.headOutcome, h, Option.map_some]

/-- A head that waits has been decoded (R61). -/
theorem State.headOutcome_of_waiting {s : State} {x : UPort} {p : Request × Decoded} (h : s.waitingHead x = some p) :
    s.headOutcome x = none := by
  unfold State.waitingHead at h
  split at h
  · next hingress hwaiting => simp only [State.headOutcome, State.undecodedHead, hingress, hwaiting, Option.map_none]
  · cases h

theorem exec_dispatch_of_undecoded {x : UPort} {r : Request} {s : State} (hheld : s.held = false)
    (h : s.undecodedHead x = some r) : exec (.dispatch x) s = .next (s.resolveOutcome x r (s.decodeHead x r)) := by
  rw [exec_dispatch hheld, State.dispatch, State.headOutcome_of_undecoded h]

theorem State.Presents.exec_dispatch {s : State} {x : UPort} {r : Request} (h : s.Presents x r) :
    exec (.dispatch x) s = .next (s.resolveOutcome x r (s.decodeHead x r)) := by
  obtain ⟨hheld, hhead, -, -⟩ := h
  exact exec_dispatch_of_undecoded hheld hhead

theorem State.PresentsAccess.presents {s : State} {x : UPort} {r : Request} {reg : Reg} (h : s.PresentsAccess x r reg) :
    s.Presents x r := h.1

theorem State.PresentsWrite.presents {s : State} {x : UPort} {r : Request} {reg : Reg} {v : Word}
    (h : s.PresentsWrite x r reg v) : s.Presents x r := h.1.presents

theorem State.PresentsOutside.presents {s : State} {x : UPort} {r : Request} (h : s.PresentsOutside x r) :
    s.Presents x r := h.1

/-! ### The decode of a head that is neither a duplicate nor ill-formed -/

theorem State.hitsAperture_iff {s : State} {a : Addr} : s.hitsAperture a = true ↔ a &&& 0xFFFFFFFF0000#48 = s.mgmtBase :=
  beq_iff_eq

theorem State.Presents.decodeHead {s : State} {x : UPort} {r : Request} (h : s.Presents x r) :
    s.decodeHead x r =
      if s.hitsAperture r.addr then s.decodeMgmt x r
      else (s.windowSearch x r.addr).elim (.noHit (s.up.get x).defaultAction) (s.decodeWindow r) := by
  obtain ⟨-, -, htag, hformed⟩ := h
  have hunique : ¬ (r.kind ≠ .pw ∧ s.tagLive x r.tag = true) := fun hdup => by
    rcases htag with hkind | hlive
    · exact hdup.1 hkind
    · rw [hlive] at hdup
      cases hdup.2
  rw [State.decodeHead, if_neg hunique, if_neg (not_not.mpr hformed)]
  cases s.windowSearch x r.addr <;> rfl

theorem State.Presents.decodeHead_aperture {s : State} {x : UPort} {r : Request} (h : s.Presents x r)
    (hhit : s.hitsAperture r.addr = true) : s.decodeHead x r = s.decodeMgmt x r := by
  rw [h.decodeHead, if_pos hhit]

theorem State.PresentsOutside.decodeHead {s : State} {x : UPort} {r : Request} {i : Fin 16} (h : s.PresentsOutside x r)
    (hi : s.windowSearch x r.addr = some i) : s.decodeHead x r = s.decodeWindow r i := by
  rw [h.presents.decodeHead, h.2, if_neg Bool.false_ne_true, hi, Option.elim_some]

/-! ### Accesses of the aperture (R51, R52) -/

theorem State.decodeMgmt_not_permitted {s : State} {x : UPort} (h : s.permitted x = false) (r : Request) :
    s.decodeMgmt x r = .mgmtRefused .denied .denied := by
  simp only [State.decodeMgmt, h, Bool.false_eq_true, not_false_eq_true, if_true]

theorem State.decodeMgmt_malformed {s : State} {x : UPort} (h : s.permitted x = true) {r : Request}
    (hform : r.len.toNat ≠ 4 ∨ (r.addr - s.mgmtBase).toNat % 4 ≠ 0) :
    s.decodeMgmt x r = .mgmtRefused .malformed .malformed := by
  simp only [State.decodeMgmt, h, not_true_eq_false, if_false, if_pos hform]

/-- The decode of an aligned word access by a port with permission. -/
theorem State.decodeMgmt_word {s : State} {x : UPort} (h : s.permitted x = true) {r : Request} (hlen : r.len.toNat = 4)
    (haligned : (r.addr - s.mgmtBase).toNat % 4 = 0) {target : Option Reg}
    (htarget : regAt (r.addr - s.mgmtBase).toNat = target) :
    s.decodeMgmt x r = target.elim (.mgmtRefused .unmapped .unmapped) fun reg =>
      if r.kind = .rd then .mgmtRead reg
      else if reg.writable then .mgmtWrite reg (wordOfData r.data)
      else .mgmtRefused .denied .denied := by
  have hform : ¬ (r.len.toNat ≠ 4 ∨ (r.addr - s.mgmtBase).toNat % 4 ≠ 0) := by omega
  simp only [State.decodeMgmt, h, not_true_eq_false, if_false, if_neg hform, htarget]
  cases target <;> rfl

theorem State.PresentsAccess.decodeHead {s : State} {x : UPort} {r : Request} {reg : Reg} (h : s.PresentsAccess x r reg) :
    s.decodeHead x r =
      if r.kind = .rd then .mgmtRead reg
      else if reg.writable then .mgmtWrite reg (wordOfData r.data)
      else .mgmtRefused .denied .denied := by
  obtain ⟨hpresents, hhit, hpermitted, hlen, haligned, hreg⟩ := h
  rw [hpresents.decodeHead_aperture hhit, State.decodeMgmt_word hpermitted hlen haligned hreg, Option.elim_some]

theorem State.PresentsWrite.decodeHead {s : State} {x : UPort} {r : Request} {reg : Reg} {v : Word}
    (h : s.PresentsWrite x r reg v) : s.decodeHead x r = .mgmtWrite reg v := by
  obtain ⟨haccess, hkind, hwritable, rfl⟩ := h
  have hnot : r.kind ≠ .rd := by rcases hkind with hk | hk <;> rw [hk] <;> decide
  rw [haccess.decodeHead, if_neg hnot, if_pos hwritable]

/-- Settles O20: each check of R51 and R52 decides the decode, and the outcome resolves the head. -/
theorem managementAccessIsRefusedOrRead : Obligations.ManagementAccessIsRefusedOrRead := by
  refine ⟨fun x r s hpresents hhit => ?_, fun x r reg s haccess hkind => ?_⟩
  · have hdispatch : exec (.dispatch x) s = .next (s.resolveOutcome x r (s.decodeMgmt x r)) := by
      rw [hpresents.exec_dispatch, hpresents.decodeHead_aperture (State.hitsAperture_iff.mpr hhit)]
    rw [hdispatch]
    refine ⟨fun hdenied => ?_, fun hpermitted => ⟨fun hform => ?_, fun hlen haligned => ⟨fun hnone => ?_, ?_⟩⟩⟩
    · rw [State.decodeMgmt_not_permitted hdenied]
      rfl
    · rw [State.decodeMgmt_malformed hpermitted hform]
      rfl
    · rw [State.decodeMgmt_word hpermitted hlen haligned hnone]
      rfl
    · intro reg hreg hkind hwritable
      rw [State.decodeMgmt_word hpermitted hlen haligned hreg, Option.elim_some, if_neg hkind, hwritable,
        if_neg Bool.false_ne_true]
      rfl
  · rw [haccess.presents.exec_dispatch, haccess.decodeHead, if_pos hkind]
    rfl

/-! ### Heads outside the aperture (R53, R54) -/

theorem State.decodeWindow_denied {s : State} {r : Request} {i : Fin 16}
    (h : (s.window i).active.targetKind = .refuse ∨ (s.window i).active.permit.getLsbD r.kind.code = false) :
    s.decodeWindow r i = .windowDenied i (s.window i).active.capture := by
  simp only [State.decodeWindow, Bool.not_eq_true, if_pos h]

/-- A request that its window permits goes to its port, if that port is in service (R54). -/
theorem State.decodeWindow_permitted {s : State} {r : Request} {i : Fin 16}
    (hkind : (s.window i).active.targetKind ≠ .refuse) (hpermit : (s.window i).active.permit.getLsbD r.kind.code = true) :
    s.decodeWindow r i =
      if s.available ((s.window i).active.egressPort r.addr) then .forward (s.decodeResult r i)
      else .unavailable i (s.window i).active.capture := by
  simp only [State.decodeWindow, hkind, hpermit, not_true_eq_false, or_self, if_false]
  rfl

/-- Settles O26: the window's own refusal, or the port that it selects. -/
theorem windowRefusesOrPortIsUnavailable : Obligations.WindowRefusesOrPortIsUnavailable := by
  intro x r i s houtside hi
  rw [houtside.presents.exec_dispatch, houtside.decodeHead hi]
  refine ⟨fun hrefused => ?_, fun hkind hpermit hservice => ?_⟩
  · rw [State.decodeWindow_denied hrefused]
    rfl
  · rw [State.decodeWindow_permitted hkind hpermit, hservice, if_neg Bool.false_ne_true]
    rfl

/-- Settles O28: DISPATCH and FORWARDING take one decode to FORWARD alike; a waiting head has only its allocation event left. -/
theorem forwardDecodeMeetsTheAllocationEvent : Obligations.ForwardDecodeMeetsTheAllocationEvent := by
  refine fun x r s => ⟨fun i houtside hi hkind hpermit hservice => ?_, fun hheld hwaiting => ?_⟩
  · have hdecode : s.decodeHead x r = .forward (s.decodeResult r i) := by
      rw [houtside.decodeHead hi, State.decodeWindow_permitted hkind hpermit, if_pos hservice]
    obtain ⟨hheld, hhead, -, -⟩ := houtside.presents
    refine ⟨?_, ?_⟩
    · rw [exec_dispatch_of_undecoded hheld hhead, hdecode]
      rfl
    · rw [exec_forwarding hheld, State.forwardHead, State.headOutcome_of_undecoded hhead, hdecode]
      rfl
  · obtain ⟨d, hhead⟩ := hwaiting
    rw [exec_forwarding hheld, State.forwardHead, State.headOutcome_of_waiting hhead, hhead]
    rfl

end Sys2Proof.Machine
end

section
/-! PROOFS. Management writes as accepted or refused accesses (R52, R180): the control word of a window (R32 to R37), the base
of the aperture (R43), a reserve (R71), an orphan limit (R105), and the staging words (R31). -/

namespace Sys2Proof

theorem withLo_eq_ofNat (a : Addr) (w : Word) : withLo a w = BitVec.ofNat 48 (a.toNat / 2 ^ 32 * 2 ^ 32 + w.toNat) := by
  rw [← withLo_toNat, BitVec.ofNat_toNat, BitVec.setWidth_eq]

theorem withHi_eq_ofNat (a : Addr) (w : Word) :
    withHi a w = BitVec.ofNat 48 (w.toNat % 65536 * 2 ^ 32 + a.toNat % 2 ^ 32) := by
  rw [← withHi_toNat, BitVec.ofNat_toNat, BitVec.setWidth_eq]

theorem append_eq_ofNat (hi : BitVec 16) (lo : Word) :
    (hi ++ lo : BitVec (16 + 32)) = BitVec.ofNat 48 (hi.toNat * 2 ^ 32 + lo.toNat) := by
  refine BitVec.eq_of_toNat_eq ?_
  have hhi := hi.isLt
  have hlo := lo.isLt
  rw [BitVec.toNat_append, Nat.shiftLeft_eq, Nat.mul_comm _ (2 ^ 32), ← Nat.two_pow_add_eq_or_of_lt hlo, BitVec.toNat_ofNat,
    Nat.mod_eq_of_lt (by omega), Nat.mul_comm]

theorem lowHalf_eq_zero_iff {v : Word} : v.extractLsb' 0 16 = 0 ↔ v.toNat % 65536 = 0 := by
  rw [← BitVec.toNat_inj, BitVec.extractLsb'_toNat, Nat.shiftRight_zero]
  rfl

namespace Machine

/-! ### Rows that are management writes -/

/-- The row of a write, or DISPATCH, performs it (log 6). -/
theorem State.PresentsWrite.whileRunning_dispatchWrite {s : State} {x : UPort} {r : Request} {reg : Reg} {v : Word}
    (h : s.PresentsWrite x r reg v) {row : Reg → Word → Bool} (hrow : row reg v = true) :
    whileRunning s (fun s => s.dispatchWrite x row) = .next (s.performWrite x r reg v) := by
  obtain ⟨hheld, hhead, -, -⟩ := h.presents
  simp only [whileRunning, hheld, Bool.false_eq_true, if_false, State.dispatchWrite, State.headOutcome_of_undecoded hhead,
    h.decodeHead, hrow, if_true, State.resolveOutcome]

theorem State.PresentsWrite.exec_dispatch {s : State} {x : UPort} {r : Request} {reg : Reg} {v : Word}
    (h : s.PresentsWrite x r reg v) : exec (.dispatch x) s = .next (s.performWrite x r reg v) := by
  rw [h.presents.exec_dispatch, h.decodeHead]
  rfl

theorem writes_self (reg : Reg) (v : Word) : writes reg v reg v = true := by
  simp only [writes, beq_self_eq_true, Bool.and_self]

/-- A write that its register accepts. -/
theorem State.performWrite_accepted {s : State} {x : UPort} {r : Request} {reg : Reg} {v : Word} (hreg : reg ≠ .command)
    (hok : s.accepts reg v = true) {effect : State → State}
    (heffect : (s.answer x r .ok).access reg v = effect (s.answer x r .ok)) :
    s.performWrite x r reg v = s.accepted x r effect := by
  simp only [State.performWrite, hreg, false_and, if_false, hok, if_true, heffect, State.accepted]

/-- A write that its register refuses. -/
theorem State.performWrite_refused {s : State} {x : UPort} {r : Request} {reg : Reg} {v : Word} (hreg : reg ≠ .command)
    (hok : s.accepts reg v = false) {cause : Cause} (hcause : refusalCause reg v = cause) {effect : State → State}
    (heffect : (s.answer x r .denied).access reg v = effect (s.answer x r .denied)) :
    s.performWrite x r reg v = s.refused x r cause effect := by
  simp only [State.performWrite, hreg, false_and, if_false, hok, Bool.false_eq_true, hcause, heffect, State.refused]

theorem State.answer_settings (s : State) (x : UPort) (r : Request) (status : Status) :
    (s.answer x r status).settings = s.settings := State.kept_settings (s.answer_kept x r status)

theorem State.onWindow_congr (s : State) {i : Fin 16} {f g : WindowEntry → WindowEntry}
    (h : f (s.window i) = g (s.window i)) : s.onWindow i f = s.onWindow i g := by
  rw [State.onWindow, State.onWindow, h]

/-! ### The control word of a window (R32 to R37) -/

theorem commitOutcome_eq_ok_iff {c : WindowConfig} : commitOutcome c = .ok ↔ c.valid = false ∨ commitCheck c = .ok := by
  cases hvalid : c.valid <;> simp [commitOutcome, hvalid]

theorem State.commitWindow_installs {s : State} {i : Fin 16} (h : commitOutcome (s.window i).staging = .ok) :
    s.commitWindow i = s.onWindow i fun e => { e with active := e.staging, status := .ok } :=
  s.onWindow_congr (if_pos h)

theorem State.commitWindow_refuses {s : State} {i : Fin 16} (hvalid : (s.window i).staging.valid = true)
    (h : commitCheck (s.window i).staging ≠ .ok) :
    s.commitWindow i = s.onWindow i fun e => { e with status := commitCheck e.staging } := by
  have houtcome : commitOutcome (s.window i).staging = commitCheck (s.window i).staging := if_pos hvalid
  refine s.onWindow_congr ?_
  rw [if_neg (houtcome ▸ h), houtcome]

/-- Settles O40: a COMMIT turns on the staging record alone, which the write's own answer leaves as it stands. -/
theorem controlWordsCommitDisableOrAreDenied : Obligations.ControlWordsCommitDisableOrAreDenied := by
  refine ⟨fun x i r s h => ⟨fun hok => ?_, fun hvalid hfail => ?_⟩, fun x i r s h => ?_, fun x i v r s h hone htwo => ?_⟩
  · have houtcome := commitOutcome_eq_ok_iff.mpr hok
    have haccepts : s.accepts (.control i) 1 = true := beq_iff_eq.mpr houtcome
    refine (h.whileRunning_dispatchWrite (writes_self _ _)).trans (congrArg _ ?_)
    refine State.performWrite_accepted (by nofun) haccepts ?_
    rw [← State.staging_of_settings (s.answer_settings x r .ok)] at houtcome
    exact State.commitWindow_installs houtcome
  · have houtcome : commitOutcome (s.window i).staging ≠ .ok := fun hok => by
      rcases commitOutcome_eq_ok_iff.mp hok with hno | hok
      · rw [hvalid] at hno
        cases hno
      · exact hfail hok
    have hrefuses : s.accepts (.control i) 1 = false := beq_eq_false_iff_ne.mpr houtcome
    refine (h.whileRunning_dispatchWrite (writes_self _ _)).trans (congrArg _ ?_)
    refine State.performWrite_refused (by nofun) hrefuses rfl ?_
    rw [← State.staging_of_settings (s.answer_settings x r .denied)] at hvalid hfail
    exact State.commitWindow_refuses hvalid hfail
  · exact (h.whileRunning_dispatchWrite (writes_self _ _)).trans
      (congrArg _ (State.performWrite_accepted (by nofun) rfl rfl))
  · have hcause : refusalCause (.control i) v = .denied := if_neg hone
    have hrefuses : s.accepts (.control i) v = false := by
      simp only [State.accepts, State.controlAccepted, if_neg hone, beq_eq_false_iff_ne, ne_eq, htwo, not_false_eq_true]
    rw [h.exec_dispatch]
    refine congrArg _ (State.performWrite_refused (by nofun) hrefuses hcause ?_)
    simp only [State.access, State.runControl, if_neg hone, if_neg htwo, id]

/-! ### The base of the aperture, a reserve, an orphan limit (R43, R71, R105) -/

theorem inRange_eq_some {lo hi : Nat} {v : Word} (hlo : lo ≤ v.toNat) (hhi : v.toNat ≤ hi) :
    inRange lo hi v = some v.toNat := inRange_eq_some_iff.mpr ⟨hlo, hhi, rfl⟩

theorem inRange_eq_none {lo hi : Nat} {v : Word} (h : v.toNat < lo ∨ hi < v.toNat) : inRange lo hi v = none :=
  if_neg (by omega)

theorem State.store_mgmtBaseLo_eq_some {v : Word} (h : v.toNat % 65536 = 0) (s : State) :
    s.store .mgmtBaseLo v = some { s with mgmtBase := BitVec.ofNat 48 (s.mgmtBaseHi.toNat * 2 ^ 32 + v.toNat) } := by
  rw [State.store, if_pos (lowHalf_eq_zero_iff.mpr h), append_eq_ofNat]

theorem State.store_mgmtBaseLo_eq_none {v : Word} (h : v.toNat % 65536 ≠ 0) (s : State) : s.store .mgmtBaseLo v = none := by
  rw [State.store, if_neg (mt lowHalf_eq_zero_iff.mp h)]

theorem State.store_reserve_eq_some {s : State} {p : UPort} {v : Word} (h : v.toNat + (s.up.get p.other).reserve ≤ 64) :
    s.store (.up p .reserve) v = some (s.onUp p fun u => { u with reserve := v.toNat }) := by
  rw [State.store, State.storeUp, inRange_eq_some (Nat.zero_le _) (Nat.le_sub_of_add_le h), Option.map_some]

theorem State.store_reserve_eq_none {s : State} {p : UPort} {v : Word} (hother : (s.up.get p.other).reserve ≤ 64)
    (h : 64 < v.toNat + (s.up.get p.other).reserve) : s.store (.up p .reserve) v = none := by
  have hlimit : 64 - (s.up.get p.other).reserve < v.toNat := by omega
  rw [State.store, State.storeUp, inRange_eq_none (.inr hlimit), Option.map_none]

theorem State.store_orphanLimit_eq_some {v : Word} (hpos : 1 ≤ v.toNat) (hle : v.toNat ≤ 32) (s : State) (n : DPort) :
    s.store (.down n .orphanLimit) v = some (s.onDown n fun d => { d with orphanLimit := v.toNat }) := by
  rw [State.store, State.storeDown, inRange_eq_some hpos hle, Option.map_some]

theorem State.store_orphanLimit_eq_none {v : Word} (h : v.toNat = 0 ∨ 32 < v.toNat) (s : State) (n : DPort) :
    s.store (.down n .orphanLimit) v = none := by
  rw [State.store, State.storeDown, inRange_eq_none (by omega), Option.map_none]

theorem State.orphanCount_eq (s : State) (n : DPort) :
    s.orphanCount n =
      ((List.finRange 128).filter fun k => (s.entry k).state == .orphan && (s.entry k).egress == n).length := by
  rw [State.orphanCount, State.ott_toList, List.countP_map, List.countP_eq_length_filter]
  rfl

/-- The orphan limit test after an accepted write of the limit (R105, R106). -/
theorem State.orphanTestEvent_of_limit (s : State) (n : DPort) (limit : Nat) :
    (s.onDown n fun d => { d with orphanLimit := limit }).orphanTestEvent n =
      if (s.down.get n).fenced = false ∧ limit ≤ s.orphanCount n then
        ((s.onDown n fun d => { d with orphanLimit := limit }).fence n .orphans).allocate
      else s.onDown n fun d => { d with orphanLimit := limit } := by
  have hcount : (s.onDown n fun d => { d with orphanLimit := limit }).orphanCount n = s.orphanCount n := rfl
  simp only [State.orphanTestEvent, State.fenceEvent, State.onDown_down, PerDown.get_modify_self, hcount]
  by_cases hlimit : limit ≤ s.orphanCount n
  · cases hfenced : (s.down.get n).fenced <;> simp [hlimit]
  · simp [hlimit]

/-- Settles O41: the three settings whose write has more effects than the value stored. -/
theorem baseReserveAndOrphanLimitWrites : Obligations.BaseReserveAndOrphanLimitWrites := by
  refine ⟨fun x v r s h => ⟨fun hok => ?_, fun hbad => ?_⟩, fun x p v r s h hother => ⟨fun hok => ?_, fun hbad => ?_⟩,
    fun x n v r s h => ⟨fun hpos hle => ?_, fun hbad => ?_⟩⟩ <;>
    refine (h.whileRunning_dispatchWrite (writes_self _ _)).trans (congrArg _ ?_)
  · refine State.performWrite_accepted (by nofun) ?_ ?_
    · simp only [State.accepts, State.store_mgmtBaseLo_eq_some hok, Option.isSome_some]
    · simp only [State.access, State.store_mgmtBaseLo_eq_some hok, Option.getD_some]
  · refine State.performWrite_refused (by nofun) ?_ rfl ?_
    · simp only [State.accepts, State.store_mgmtBaseLo_eq_none hbad, Option.isSome_none]
    · simp only [State.access, State.store_mgmtBaseLo_eq_none hbad, Option.getD_none, id]
  · have hok' : v.toNat + ((s.answer x r .ok).up.get p.other).reserve ≤ 64 := by
      rwa [State.reserve_of_settings (s.answer_settings x r .ok)]
    refine State.performWrite_accepted (by nofun) ?_ ?_
    · simp only [State.accepts, State.store_reserve_eq_some hok, Option.isSome_some]
    · simp only [State.access, State.store_reserve_eq_some hok', Option.elim_some]
  · have hkept := State.reserve_of_settings (s.answer_settings x r .denied) p.other
    refine State.performWrite_refused (by nofun) ?_ rfl ?_
    · simp only [State.accepts, State.store_reserve_eq_none hother hbad, Option.isSome_none]
    · rw [← hkept] at hother hbad
      simp only [State.access, State.store_reserve_eq_none hother hbad, Option.elim_none, id]
  · refine State.performWrite_accepted (by nofun) ?_ ?_
    · simp only [State.accepts, State.store_orphanLimit_eq_some hpos hle, Option.isSome_some]
    · simp only [State.access, State.store_orphanLimit_eq_some hpos hle, Option.elim_some, State.orphanTestEvent_of_limit,
        State.orphanCount_eq]
  · refine State.performWrite_refused (by nofun) ?_ rfl ?_
    · simp only [State.accepts, State.store_orphanLimit_eq_none hbad, Option.isSome_none]
    · simp only [State.access, State.store_orphanLimit_eq_none hbad, Option.elim_none, id]

/-! ### Plain settings -/

/-- A setting without effects of its own: the access is the value stored. -/
theorem State.access_of_plainSetting {reg : Reg} (h : reg.plainSetting = true) (v : Word) (s : State) :
    s.accepts reg v = (s.store reg v).isSome ∧ s.access reg v = (s.store reg v).getD s := by
  cases reg with
  | up p r =>
    cases r with
    | defaultAction => exact ⟨rfl, rfl⟩
    | _ => cases h
  | down n r =>
    cases r with
    | rspTimeout | degOn | degOff | fenceLimit => exact ⟨rfl, rfl⟩
    | _ => cases h
  | mgmtPermit | mgmtBaseHi | noticeAddrLo | noticeAddrHi | noticePort | noticeRepeat | combine | trigger | capMgmt
  | capDefault | postCount | threshold | mode | matchUnit _ _ | staging _ _ => exact ⟨rfl, rfl⟩
  | _ => cases h

theorem Reg.ne_command_of_plainSetting {reg : Reg} (h : reg.plainSetting = true) : reg ≠ .command := by
  rintro rfl
  cases h

theorem State.PresentsWrite.exec_settingWrite {s : State} {x : UPort} {r : Request} {reg : Reg} {v : Word}
    (h : s.PresentsWrite x r reg v) (hplain : reg.plainSetting = true) :
    exec (.settingWrite x reg v) s = .next (s.performWrite x r reg v) :=
  h.whileRunning_dispatchWrite (by rw [writes_self, hplain]; rfl)

theorem State.settingTaken_of_store {reg : Reg} {v : Word} (hplain : reg.plainSetting = true) {effect : State → State}
    (hstore : ∀ t : State, t.store reg v = some (effect t)) (s : State) : s.SettingTaken reg v True effect := by
  refine fun x r h => ⟨fun _ => ?_, fun hno => absurd trivial hno⟩
  rw [h.exec_settingWrite hplain]
  refine congrArg _ (State.performWrite_accepted (Reg.ne_command_of_plainSetting hplain) ?_ ?_)
  · rw [(State.access_of_plainSetting hplain v s).1, hstore, Option.isSome_some]
  · rw [(State.access_of_plainSetting hplain v _).2, hstore, Option.getD_some]

theorem refusalCause_of_plainSetting {reg : Reg} (h : reg.plainSetting = true) (v : Word) : refusalCause reg v = .denied := by
  cases reg with
  | control i => cases h
  | _ => rfl

theorem State.settingRefused_of_store {reg : Reg} {v : Word} (hplain : reg.plainSetting = true)
    (hstore : ∀ t : State, t.store reg v = none) (s : State) : s.SettingTaken reg v False id := by
  refine fun x r h => ⟨False.elim, fun _ => ?_⟩
  rw [h.exec_settingWrite hplain]
  refine congrArg _ (State.performWrite_refused (Reg.ne_command_of_plainSetting hplain) ?_
    (refusalCause_of_plainSetting hplain v) ?_)
  · rw [(State.access_of_plainSetting hplain v s).1, hstore, Option.isSome_none]
  · rw [(State.access_of_plainSetting hplain v _).2, hstore, Option.getD_none, id]

/-! ### The staging words (R31) -/

theorem State.settingTaken_staging {i : Fin 16} {w : WindowWord} {v : Word} {f : WindowEntry → WindowEntry}
    (h : ∀ e : WindowEntry, ∃ c, e.staging.write w v = some c ∧ f e = { e with staging := c }) (s : State) :
    s.SettingTaken (.staging i w) v True fun t => t.onWindow i f := by
  refine s.settingTaken_of_store rfl fun t => ?_
  obtain ⟨c, hwrite, hf⟩ := h (t.window i)
  rw [State.store, hwrite, Option.map_some]
  exact congrArg some (t.onWindow_congr hf.symm)

theorem TargetKind.ofCode_code (k : TargetKind) : TargetKind.ofCode k.code = some k := by cases k <;> rfl

theorem CapMode.ofCode_code (m : CapMode) : CapMode.ofCode m.code = some m := by cases m <;> rfl

theorem WindowConfig.write_config_of_codes {kind : TargetKind} {mode : CapMode} {v : Word}
    (hkind : (v.extractLsb' 4 2).toNat = kind.code) (hmode : (v.extractLsb' 28 2).toNat = mode.code) (c : WindowConfig) :
    c.write .config v =
      some { c with
        valid := v.getLsbD 0
        sources := v.extractLsb' 1 2
        targetKind := kind
        portNumber := v.extractLsb' 6 3
        spreadSet := v.extractLsb' 12 4
        select := v.extractLsb' 16 6
        permit := v.extractLsb' 24 3
        capture := mode } := by
  rw [WindowConfig.write, WindowConfig.withWord, hkind, hmode, TargetKind.ofCode_code, CapMode.ofCode_code]

/-- Code 3 is no target kind and no capture mode (R192). -/
theorem WindowConfig.write_config_eq_none {v : Word} (h : (v.extractLsb' 4 2).toNat = 3 ∨ (v.extractLsb' 28 2).toNat = 3)
    (c : WindowConfig) : c.write .config v = none := by
  unfold WindowConfig.write WindowConfig.withWord
  rcases h with h | h <;> rw [h]
  · rfl
  · cases TargetKind.ofCode (v.extractLsb' 4 2).toNat <;> rfl

/-- Settles O48: the words of an address hold its two parts; the configuration word is refused for its codes alone. -/
theorem stagingWordsAreStoredAsWritten : Obligations.StagingWordsAreStoredAsWritten := by
  refine fun i v s => ⟨?_, ?_, ?_, ?_, ?_, ?_, fun kind mode hkind hmode => ?_, fun hcode => ?_⟩
  · exact s.settingTaken_staging fun e => ⟨_, rfl, by rw [withLo_eq_ofNat]⟩
  · exact s.settingTaken_staging fun e => ⟨_, rfl, by rw [withHi_eq_ofNat]⟩
  · exact s.settingTaken_staging fun e => ⟨_, rfl, by rw [withLo_eq_ofNat]⟩
  · exact s.settingTaken_staging fun e => ⟨_, rfl, by rw [withHi_eq_ofNat]⟩
  · exact s.settingTaken_staging fun e => ⟨_, rfl, by rw [withLo_eq_ofNat]⟩
  · exact s.settingTaken_staging fun e => ⟨_, rfl, by rw [withHi_eq_ofNat]⟩
  · exact s.settingTaken_staging fun e => ⟨_, WindowConfig.write_config_of_codes hkind hmode _, rfl⟩
  · refine s.settingRefused_of_store rfl fun t => ?_
    rw [State.store, WindowConfig.write_config_eq_none hcode, Option.map_none]

end Machine
end Sys2Proof
end

section
/-! PROOFS. Who may change a setting (R51, R178), the heads that the first two steps refuse (R49, R50), and the rows that name a
management write (log 6). -/

namespace Sys2Proof.Machine

-- One after another: checked side by side, the theorems exceed the memory limit of check.sh.
set_option Elab.async false

/-! ### The heads that carry a management write -/

/-- Only steps 3 and 4 come to a management write: aperture hit, permission, and a WR or PW (R41, R51, R52). -/
theorem State.mgmtWrite_of_decodeHead {s : State} {x : UPort} {r : Request} {reg : Reg} {v : Word}
    (h : s.decodeHead x r = .mgmtWrite reg v) :
    s.permitted x = true ∧ r.kind ≠ .rd ∧ s.hitsAperture r.addr = true := by
  have hmgmt : s.hitsAperture r.addr = true ∧ s.decodeMgmt x r = .mgmtWrite reg v := by
    unfold State.decodeHead at h
    split at h
    · cases h
    · split at h
      · cases h
      · split at h
        · next hhit => exact ⟨hhit, h⟩
        · split at h
          · unfold State.decodeWindow at h
            dsimp only at h
            split at h
            · cases h
            · split at h <;> cases h
          · cases h
  obtain ⟨hhit, h⟩ := hmgmt
  unfold State.decodeMgmt at h
  dsimp only at h
  split at h
  · cases h
  · next hpermitted =>
    split at h
    · cases h
    · split at h
      · cases h
      · split at h
        · cases h
        · next hkind => exact ⟨not_not.mp hpermitted, hkind, hhit⟩

theorem State.headOutcome_eq_some_iff {s : State} {x : UPort} {r : Request} {o : HeadOutcome} :
    s.headOutcome x = some (r, o) ↔ s.undecodedHead x = some r ∧ s.decodeHead x r = o := by
  simp only [State.headOutcome, Option.map_eq_some_iff, Prod.mk.injEq, existsAndEq, true_and]

/-- The undecoded head of Ux is a WR or PW to the aperture, and Ux holds management permission. -/
def State.MayWrite (s : State) (x : UPort) : Prop :=
  ∃ r, s.permitted x = true ∧ s.undecodedHead x = some r ∧ r.kind ≠ .rd ∧ s.hitsAperture r.addr = true

theorem State.mayWrite_of_headOutcome {s : State} {x : UPort} {r : Request} {reg : Reg} {v : Word}
    (h : s.headOutcome x = some (r, .mgmtWrite reg v)) : s.MayWrite x := by
  obtain ⟨hhead, hdecode⟩ := State.headOutcome_eq_some_iff.mp h
  obtain ⟨hpermitted, hkind, hhit⟩ := State.mgmtWrite_of_decodeHead hdecode
  exact ⟨r, hpermitted, hhead, hkind, hhit⟩

theorem State.dispatch_settings {s : State} {x : UPort} : s.MayWrite x ∨ (s.dispatch x).settings = s.settings := by
  unfold State.dispatch
  split
  · next r o hhead =>
    by_cases hwrite : ∃ reg v, o = .mgmtWrite reg v
    · obtain ⟨reg, v, rfl⟩ := hwrite
      exact .inl (State.mayWrite_of_headOutcome hhead)
    · exact .inr (State.kept_settings (s.resolveOutcome_kept x r o fun reg v heq => hwrite ⟨reg, v, heq⟩))
  · exact .inr rfl

theorem State.dispatchWrite_settings {s : State} {x : UPort} (row : Reg → Word → Bool) :
    s.MayWrite x ∨ (s.dispatchWrite x row).settings = s.settings := by
  unfold State.dispatchWrite
  split
  · next hhead => exact .inl (State.mayWrite_of_headOutcome hhead)
  · exact .inr rfl

/-! ### What every command does to the settings (R51, R178) -/

/-- A command that runs while RESET_N is released, by what its effect does. -/
theorem of_whileRunning {s t : State} {f : State → State} {P : State → Prop} (h : whileRunning s f = .next t) (hs : P s)
    (hf : P (f s)) : P t := by
  simp only [whileRunning, Host.Outcome.next.injEq] at h
  subst h
  split
  · exact hs
  · exact hf

theorem settings_of_kept {s t : State} {f : State → State} (hf : ∀ s, (f s).kept = s.kept)
    (h : whileRunning s f = .next t) : t.settings = s.settings :=
  of_whileRunning (P := fun t => t.settings = s.settings) h rfl (State.kept_settings (hf s))

theorem settings_of_chosen {s t : State} {x : UPort} {c : Candidate} {f : State → State} (hf : ∀ s, (f s).kept = s.kept)
    (h : whileRunning s (fun s => if s.arbiterChoice x = some c then f s else s) = .next t) : t.settings = s.settings :=
  settings_of_kept (fun s => by split; exacts [hf s, rfl]) h

theorem settings_of_write {s t : State} {x : UPort} {row : Reg → Word → Bool}
    (h : whileRunning s (fun s => s.dispatchWrite x row) = .next t) : s.MayWrite x ∨ t.settings = s.settings :=
  of_whileRunning (P := fun t => s.MayWrite x ∨ t.settings = s.settings) h (.inr rfl) (s.dispatchWrite_settings row)

/-- A command other than a reset by RESET_N that changes a setting dispatches a head that may write. -/
theorem exec_settings {c : Instr} {s t : State} (h : exec c s = .next t) :
    (∃ msel, c = .powerOnReset msel) ∨ c = .resetNAsserted ∨ (∃ x, dispatchedPort c = some x ∧ s.MayWrite x)
      ∨ t.settings = s.settings := by
  have traffic (hsettings : t.settings = s.settings) : (∃ msel, c = .powerOnReset msel) ∨ c = .resetNAsserted
      ∨ (∃ x, dispatchedPort c = some x ∧ s.MayWrite x) ∨ t.settings = s.settings := .inr (.inr (.inr hsettings))
  have write {x : UPort} (hport : dispatchedPort c = some x) (hwrite : s.MayWrite x ∨ t.settings = s.settings) :
      (∃ msel, c = .powerOnReset msel) ∨ c = .resetNAsserted
        ∨ (∃ x, dispatchedPort c = some x ∧ s.MayWrite x) ∨ t.settings = s.settings :=
    hwrite.elim (fun hmay => .inr (.inr (.inl ⟨x, hport, hmay⟩))) traffic
  cases c with
  | powerOnReset msel => exact .inl ⟨msel, rfl⟩
  | resetNAsserted => exact .inr (.inl rfl)
  | upstreamLinkUp x => exact traffic (settings_of_kept (fun s => s.upstreamLinkUp_kept x) h)
  | upstreamLinkDown x => exact traffic (settings_of_kept (fun s => s.upstreamLinkDown_kept x) h)
  | downstreamLinkUp n => exact traffic (settings_of_kept (fun s => s.downstreamLinkUp_kept n) h)
  | downstreamLinkDown n => exact traffic (settings_of_kept (fun s => s.downstreamLinkDown_kept n) h)
  | requestArrival _ _ | upstreamCrArrival _ _ | partArrival _ _ | downstreamCrArrival _ _ =>
    exact traffic (settings_of_kept (fun s => s.arrive_kept _ _) h)
  | damagedMessageArrival p bytes => exact traffic (settings_of_kept (fun s => s.arriveDamaged_kept p bytes) h)
  | misdirectedMessageArrival m => cases m <;> exact traffic (settings_of_kept (fun s => s.arrive_kept _ _) h)
  | dispatch x =>
    exact write rfl (of_whileRunning (f := fun s => s.dispatch x) (P := fun t => s.MayWrite x ∨ t.settings = s.settings) h
      (.inr rfl) s.dispatch_settings)
  | forwarding x => exact traffic (settings_of_kept (fun s => s.forwardHead_kept x) h)
  | issue n => exact traffic (settings_of_kept (fun s => s.issueHead_kept n) h)
  | crTransmit x => exact traffic (settings_of_chosen (fun s => s.sendCr_kept x) h)
  | responsePartTransmit x => exact traffic (settings_of_chosen (fun s => s.sendPart_kept x) h)
  | noticeTransmit x => exact traffic (settings_of_chosen (fun s => s.sendNotice_kept x) h)
  | expiry k => exact traffic (settings_of_kept (fun s => s.expire_kept k) h)
  | repeatExpiry => exact traffic (settings_of_kept State.repeatExpire_kept h)
  | timeAdvance =>
    refine traffic (of_whileRunning (P := fun t => t.settings = s.settings) h rfl ?_)
    rcases s.advance_only with heq | heq <;> rw [heq]
    rfl
  | softReset _ | fenceCommand _ _ | unfence _ _ | retrain _ _ | clearCounters _ | captureArm _ | captureStop _
  | captureClear _ | unknownCommand _ _ | commit _ _ | disable _ _ | mgmtBaseLoWrite _ _ | reserveWrite _ _ _
  | orphanLimitWrite _ _ _ | enableWrite _ _ | clearWrite _ _ | noticeAck _ _ | captureRelease _ | settingWrite _ _ _ =>
    exact write rfl (settings_of_write h)

/-- Settles O58: of the commands that run, only a management write reaches a setting, and a decode comes to one only by the
port's own permission and its own head. -/
theorem settingsChangeOnlyByPermittedWrites : Obligations.SettingsChangeOnlyByPermittedWrites := by
  intro c s t h hchanged
  rcases exec_settings h with hpower | hreset | ⟨x, hport, r, hmay⟩ | hsame
  · exact .inl hpower
  · exact .inr (.inl hreset)
  · exact .inr (.inr ⟨x, r, hport, hmay⟩)
  · exact absurd hsame hchanged

/-! ### The first two steps of a decode (R49, R50) -/

theorem State.tagLive_iff {s : State} {x : UPort} {tag : Tag} :
    s.tagLive x tag = true ↔ ∃ k, (s.entry k).state.live = true ∧ (s.entry k).src = x ∧ (s.entry k).srcTag = tag := by
  simp only [State.tagLive, State.ott_toList, List.any_map, List.any_eq_true, List.mem_finRange, true_and,
    Function.comp_apply, Bool.and_eq_true, beq_iff_eq, and_assoc]

theorem State.tagLive_eq_false_iff {s : State} {x : UPort} {tag : Tag} :
    s.tagLive x tag = false ↔ ∀ k, (s.entry k).state.live = true → (s.entry k).src = x → (s.entry k).srcTag ≠ tag := by
  rw [← Bool.not_eq_true, State.tagLive_iff]
  simp only [not_exists, not_and, ne_eq]

/-- Settles O19: the first two tests of the decode, in their order. -/
theorem headsRefusedBeforeDecode : Obligations.HeadsRefusedBeforeDecode := by
  refine fun x r s hheld hhead => ⟨fun hkind hlive => ?_, fun hunique hformed => ?_⟩ <;>
    rw [exec_dispatch_of_undecoded hheld hhead, State.decodeHead]
  · rw [if_pos ⟨hkind, State.tagLive_iff.mpr hlive⟩]
    rfl
  · have hnew : ¬ (r.kind ≠ .pw ∧ s.tagLive x r.tag = true) := by
      rintro ⟨hkind, htag⟩
      rw [State.tagLive_eq_false_iff.mpr (hunique.resolve_left hkind)] at htag
      cases htag
    rw [if_neg hnew, hformed, if_pos Bool.false_ne_true]
    rfl

/-! ### The rows that name a management write (log 6) -/

theorem carries_iff {c : Command} {reg : Reg} {v : Word} :
    carries c reg v = true ↔ reg = .command ∧ Command.ofCode (commandCode v).toNat = some c := by
  simp only [carries, Bool.and_eq_true, beq_iff_eq]

/-- The row of a COMMAND word performs the write. -/
theorem State.PresentsWrite.exec_command {s : State} {x : UPort} {r : Request} {v : Word} {c : Instr}
    (h : s.PresentsWrite x r .command v) (hc : rowOfWrite x .command v = some c) :
    exec c s = .next (s.performWrite x r .command v) := by
  obtain rfl := Option.some.inj hc
  have carried {k : Command} (hcode : Command.ofCode (commandCode v).toNat = some k) : carries k .command v = true :=
    carries_iff.mpr ⟨rfl, hcode⟩
  have carriedFor {k : Command} (hcode : Command.ofCode (commandCode v).toNat = some k) :
      carriesFor k (commandPort v) .command v = true := by
    rw [carriesFor, carried hcode, beq_self_eq_true, Bool.and_self]
  split
  · next hcode => exact h.whileRunning_dispatchWrite (carried hcode)
  · next hcode => exact h.whileRunning_dispatchWrite (carriedFor hcode)
  · next hcode => exact h.whileRunning_dispatchWrite (carriedFor hcode)
  · next hcode => exact h.whileRunning_dispatchWrite (carriedFor hcode)
  · next hcode => exact h.whileRunning_dispatchWrite (carried hcode)
  · next hcode => exact h.whileRunning_dispatchWrite (carried hcode)
  · next hcode => exact h.whileRunning_dispatchWrite (carried hcode)
  · next hcode => exact h.whileRunning_dispatchWrite (carried hcode)
  · next hcode =>
    have hcode' : Command.ofCode (commandCode v).toNat = none := hcode
    refine h.whileRunning_dispatchWrite ?_
    simp only [beq_self_eq_true, Bool.true_and, Bool.and_eq_true, beq_iff_eq]
    exact ⟨rfl, hcode'⟩

/-- The row that names a write performs it. -/
theorem State.PresentsWrite.exec_row {s : State} {x : UPort} {r : Request} {reg : Reg} {v : Word} {c : Instr}
    (h : s.PresentsWrite x r reg v) (hc : rowOfWrite x reg v = some c) : exec c s = .next (s.performWrite x r reg v) := by
  obtain ⟨-, -, hwritable, -⟩ := id h
  cases reg with
  | command => exact h.exec_command hc
  | control i =>
    simp only [rowOfWrite] at hc
    split at hc
    · next hone =>
      cases hc
      exact h.whileRunning_dispatchWrite (by rw [hone, writes_self])
    · split at hc
      · next htwo =>
        cases hc
        exact h.whileRunning_dispatchWrite (by rw [htwo, writes_self])
      · cases hc
  | mgmtBaseLo | enable | clear | noticeAck =>
    cases hc
    exact h.whileRunning_dispatchWrite (writes_self _ _)
  | release =>
    cases hc
    exact h.whileRunning_dispatchWrite rfl
  | up p reg =>
    cases reg with
    | reserve =>
      cases hc
      exact h.whileRunning_dispatchWrite (writes_self _ _)
    | defaultAction =>
      cases hc
      exact h.exec_settingWrite rfl
    | _ => cases hwritable
  | down n reg =>
    cases reg with
    | orphanLimit =>
      cases hc
      exact h.whileRunning_dispatchWrite (writes_self _ _)
    | rspTimeout | degOn | degOff | fenceLimit =>
      cases hc
      exact h.exec_settingWrite rfl
    | _ => cases hwritable
  | mgmtPermit | mgmtBaseHi | noticeAddrLo | noticeAddrHi | noticePort | noticeRepeat | combine | trigger | capMgmt
  | capDefault | postCount | threshold | mode | matchUnit _ _ | staging _ _ =>
    cases hc
    exact h.exec_settingWrite rfl
  | _ => cases hwritable

/-- Settles O23: both perform the same write. -/
theorem dispatchOfAWriteIsItsRow : Obligations.DispatchOfAWriteIsItsRow := by
  intro x r reg v c s h hc
  rw [h.exec_dispatch, h.exec_row hc]

end Sys2Proof.Machine
end

section
/-! PROOFS. What the shared operations do to the ports and the table, each in the fields it touches: causes, parts, handings and
the resolution of heads (R48, R58, R127, R149, R166). -/

namespace Sys2Proof.Machine

-- One after another: checked side by side, the theorems exceed the memory limit of check.sh.
set_option Elab.async false

/-! ### Access to ports and entries -/

theorem PerUp.modify_modify {α : Type} (p : PerUp α) (x : UPort) (f g : α → α) :
    (p.modify x f).modify x g = p.modify x fun a => g (f a) := by
  cases x <;> rfl

theorem PerUp.modify_id {α : Type} (p : PerUp α) {x : UPort} {f : α → α} (h : f (p.get x) = p.get x) : p.modify x f = p :=
  PerUp.ext_get fun y => by
    rw [PerUp.get_modify]
    split
    · next hy => rw [hy, h]
    · rfl

theorem State.onUp_onUp (s : State) (x : UPort) (f g : Upstream → Upstream) :
    (s.onUp x f).onUp x g = s.onUp x fun u => g (f u) := by
  simp only [State.onUp, PerUp.modify_modify]

theorem State.onUp_eq_self {s : State} {x : UPort} {f : Upstream → Upstream} (h : f (s.up.get x) = s.up.get x) :
    s.onUp x f = s := by
  rw [State.onUp, PerUp.modify_id _ h]

theorem State.entry_congr {s t : State} (h : t.ott = s.ott) (k : Fin 128) : t.entry k = s.entry k := by
  rw [State.entry, State.entry, h]

/-! ### Causes (R166) -/

@[simp] theorem State.raise_up (s : State) (c : Cause) : (s.raise c).up = s.up := rfl
@[simp] theorem State.raise_down (s : State) (c : Cause) : (s.raise c).down = s.down := rfl
@[simp] theorem State.raise_ott (s : State) (c : Cause) : (s.raise c).ott = s.ott := rfl
@[simp] theorem State.raise_entry (s : State) (c : Cause) (k : Fin 128) : (s.raise c).entry k = s.entry k := rfl
@[simp] theorem State.raise_capture (s : State) (c : Cause) : (s.raise c).capture = s.capture := rfl
@[simp] theorem State.raise_time (s : State) (c : Cause) : (s.raise c).time = s.time := rfl

theorem NoticeUnit.examine_cause (u : NoticeUnit) : u.examine.cause = u.cause := by rw [u.examine_only]

theorem State.raise_cause (s : State) (c : Cause) : (s.raise c).notice.cause = s.notice.cause ||| c.set :=
  NoticeUnit.examine_cause _

theorem Cause.set_getLsbD_position (c : Cause) : c.set.getLsbD c.position = true := by
  cases c with
  | linkChangeU x => cases x <;> rfl
  | linkChange n | degradedChange n | fenced n => cases n <;> rfl
  | _ => rfl

theorem State.raise_sets (s : State) (c : Cause) : (s.raise c).notice.cause.getLsbD c.position = true := by
  rw [State.raise_cause, BitVec.getLsbD_or, c.set_getLsbD_position, Bool.or_true]

/-! ### What leaves windows and outputs, and loses no cause -/

/-- The windows and the outputs stay, and no cause is cleared. -/
structure State.Carries (s t : State) : Prop where
  windows : t.windows = s.windows
  outputs : t.outputs = s.outputs
  causes  : ∀ b, s.notice.cause.getLsbD b = true → t.notice.cause.getLsbD b = true

namespace State.Carries

variable {s t : State}

theorem refl (s : State) : s.Carries s := ⟨rfl, rfl, fun _ => id⟩

theorem trans {r : State} (h : s.Carries t) (h' : t.Carries r) : s.Carries r :=
  ⟨h'.windows.trans h.windows, h'.outputs.trans h.outputs, fun b => h'.causes b ∘ h.causes b⟩

theorem onUp (h : s.Carries t) (x : UPort) (f : Upstream → Upstream) : s.Carries (t.onUp x f) :=
  h.trans ⟨rfl, rfl, fun _ => id⟩

theorem onDown (h : s.Carries t) (n : DPort) (f : Downstream → Downstream) : s.Carries (t.onDown n f) :=
  h.trans ⟨rfl, rfl, fun _ => id⟩

theorem onEntry (h : s.Carries t) (k : Fin 128) (f : OttEntry → OttEntry) : s.Carries (t.onEntry k f) :=
  h.trans ⟨rfl, rfl, fun _ => id⟩

theorem onCapture (h : s.Carries t) (f : Capture → Capture) : s.Carries (t.onCapture f) :=
  h.trans ⟨rfl, rfl, fun _ => id⟩

theorem choices (h : s.Carries t) (k : Nat) : s.Carries { t with choices := k } := h.trans ⟨rfl, rfl, fun _ => id⟩

theorem lastGrant (h : s.Carries t) (x : UPort) : s.Carries { t with lastGrant := x } := h.trans ⟨rfl, rfl, fun _ => id⟩

theorem raise (h : s.Carries t) (c : Cause) : s.Carries (t.raise c) := by
  refine h.trans ⟨rfl, rfl, fun b hb => ?_⟩
  rw [State.raise_cause, BitVec.getLsbD_or, hb, Bool.true_or]

theorem foldl {α : Type} (h : s.Carries t) {f : State → α → State} (hf : ∀ r a, s.Carries r → s.Carries (f r a))
    (l : List α) : s.Carries (l.foldl f t) := by
  induction l generalizing t with
  | nil => exact h
  | cons a l ih => exact ih (hf t a h)

end State.Carries

/-! ### The capture unit (chapter 8) -/

/-- Nothing changes but the capture unit and the notice unit. -/
structure State.Records (s t : State) : Prop where
  only : t = { s with capture := t.capture, notice := t.notice }
  carries : s.Carries t

namespace State.Records

variable {s t : State}

theorem refl (s : State) : s.Records s := ⟨rfl, .refl s⟩

theorem onCapture (h : s.Records t) (f : Capture → Capture) : s.Records (t.onCapture f) := by
  refine ⟨?_, h.carries.onCapture f⟩
  rw [h.only]
  rfl

theorem raise (h : s.Records t) (c : Cause) : s.Records (t.raise c) := by
  refine ⟨?_, h.carries.raise c⟩
  rw [h.only]
  rfl

theorem offer (h : s.Records t) (flag : Bool) (b : RecordBody) : s.Records (t.offer flag b) := by
  unfold State.offer
  dsimp only
  split
  · split
    · exact (h.onCapture _).raise _
    · exact h.onCapture _
  · split <;> exact (h.onCapture _).raise _

theorem freezeAtZero (h : s.Records t) : s.Records t.freezeAtZero := by
  unfold State.freezeAtZero
  split
  · exact (h.onCapture _).raise _
  · exact h

theorem triggerCapture (h : s.Records t) (candidate : Bool) (b : RecordBody) : s.Records (t.triggerCapture candidate b) := by
  unfold State.triggerCapture
  cases candidate
  · exact ((h.onCapture _).raise _).freezeAtZero
  · exact (((h.onCapture _).raise _).offer _ _).freezeAtZero

theorem recordTriggered (h : s.Records t) (b : RecordBody) : s.Records (t.recordTriggered b) := by
  unfold State.recordTriggered
  split
  · exact ((h.offer _ _).onCapture _).freezeAtZero
  · exact h.offer _ _

end State.Records

theorem State.hand_records (s : State) (candidate fires : Bool) (b : RecordBody) :
    s.Records (s.hand candidate fires b) := by
  have h := State.Records.refl s
  unfold State.hand
  split
  · exact h
  · exact h
  · split
    · exact h.triggerCapture candidate b
    · split
      · exact h.offer _ b
      · exact h
  · split
    · exact h.recordTriggered b
    · exact h

section
variable (s : State) (candidate fires : Bool) (b : RecordBody) (g : Handing) (k : Fin 128) (status : Status)

@[simp] theorem State.hand_up : (s.hand candidate fires b).up = s.up := by
  rw [(s.hand_records candidate fires b).only]
@[simp] theorem State.hand_down : (s.hand candidate fires b).down = s.down := by
  rw [(s.hand_records candidate fires b).only]
@[simp] theorem State.hand_ott : (s.hand candidate fires b).ott = s.ott := by
  rw [(s.hand_records candidate fires b).only]
@[simp] theorem State.hand_lastGrant : (s.hand candidate fires b).lastGrant = s.lastGrant := by
  rw [(s.hand_records candidate fires b).only]

@[simp] theorem State.handRequest_up : (s.handRequest g).up = s.up := s.hand_up _ _ _
@[simp] theorem State.handRequest_down : (s.handRequest g).down = s.down := s.hand_down _ _ _
@[simp] theorem State.handRequest_ott : (s.handRequest g).ott = s.ott := s.hand_ott _ _ _
@[simp] theorem State.handRequest_lastGrant : (s.handRequest g).lastGrant = s.lastGrant := s.hand_lastGrant _ _ _
@[simp] theorem State.handRequest_entry : (s.handRequest g).entry k = s.entry k := State.entry_congr (s.handRequest_ott g) k

theorem State.handRequest_carries : s.Carries (s.handRequest g) := (s.hand_records _ _ _).carries

end

/-- Two states in which a handing meets the same capture unit at the same TIME. -/
structure State.SameCapture (s t : State) : Prop where
  capture : s.capture = t.capture
  time    : s.time = t.time

namespace State.SameCapture

variable {s t : State}

theorem onCapture (h : s.SameCapture t) (f : Capture → Capture) : (s.onCapture f).SameCapture (t.onCapture f) :=
  ⟨congrArg f h.capture, h.time⟩

theorem raise (h : s.SameCapture t) (c : Cause) : (s.raise c).SameCapture (t.raise c) := ⟨h.capture, h.time⟩

theorem offer (h : s.SameCapture t) (flag : Bool) (b : RecordBody) : (s.offer flag b).SameCapture (t.offer flag b) := by
  unfold State.offer
  dsimp only
  rw [h.capture, h.time]
  split
  · split
    · exact (h.onCapture _).raise _
    · exact h.onCapture _
  · split <;> exact (h.onCapture _).raise _

theorem freezeAtZero (h : s.SameCapture t) : s.freezeAtZero.SameCapture t.freezeAtZero := by
  unfold State.freezeAtZero
  rw [h.capture]
  split
  · exact (h.onCapture _).raise _
  · exact h

theorem triggerCapture (h : s.SameCapture t) (candidate : Bool) (b : RecordBody) :
    (s.triggerCapture candidate b).SameCapture (t.triggerCapture candidate b) := by
  unfold State.triggerCapture
  cases candidate
  · exact ((h.onCapture _).raise _).freezeAtZero
  · exact (((h.onCapture _).raise _).offer _ _).freezeAtZero

theorem recordTriggered (h : s.SameCapture t) (b : RecordBody) :
    (s.recordTriggered b).SameCapture (t.recordTriggered b) := by
  unfold State.recordTriggered
  rw [h.capture]
  split
  · exact ((h.offer _ _).onCapture _).freezeAtZero
  · exact h.offer _ _

theorem hand (h : s.SameCapture t) (candidate fires : Bool) (b : RecordBody) :
    (s.hand candidate fires b).SameCapture (t.hand candidate fires b) := by
  unfold State.hand
  rw [h.capture]
  split
  · exact h
  · exact h
  · split
    · exact h.triggerCapture candidate b
    · split
      · exact h.offer _ b
      · exact h
  · split
    · exact h.recordTriggered b
    · exact h

/-- What a request handing leaves in the capture unit rests on that unit and on TIME alone (R149 to R159). -/
theorem handRequest (h : s.SameCapture t) (g : Handing) : (s.handRequest g).SameCapture (t.handRequest g) := by
  unfold State.handRequest
  rw [h.capture]
  exact h.hand _ _ _

end State.SameCapture

/-! ### Parts (R58, R127) -/

theorem State.placePart_of_room {s : State} {x : UPort} (h : (s.up.get x).returnQueue.length < 576) (p : Part) :
    s.placePart x p = s.onUp x fun u => { u with returnQueue := u.returnQueue ++ [p] } := if_neg (Nat.not_le.mpr h)

theorem State.placeParts_of_room {s : State} {x : UPort} {ps : List Part}
    (h : (s.up.get x).returnQueue.length + ps.length ≤ 576) :
    s.placeParts x ps = s.onUp x fun u => { u with returnQueue := u.returnQueue ++ ps } := by
  induction ps generalizing s with
  | nil => exact (State.onUp_eq_self (by rw [List.append_nil])).symm
  | cons p ps ih =>
    rw [List.length_cons] at h
    have hroom : (s.up.get x).returnQueue.length < 576 := by omega
    have hrest : ((s.placePart x p).up.get x).returnQueue.length + ps.length ≤ 576 := by
      rw [State.placePart_of_room hroom, State.onUp_up, PerUp.get_modify_self, List.length_append, List.length_singleton]
      omega
    calc s.placeParts x (p :: ps) = (s.placePart x p).placeParts x ps := rfl
      _ = s.onUp x fun u => { u with returnQueue := u.returnQueue ++ (p :: ps) } := by
        rw [ih hrest, State.placePart_of_room hroom, State.onUp_onUp]
        simp only [List.append_assoc, List.singleton_append]

/-- A local answer is one part, or none for a PW (R58). -/
theorem State.answer_eq_placeParts (s : State) (x : UPort) (r : Request) (status : Status) :
    s.answer x r status = s.placeParts x (finalParts r status) := by
  unfold State.answer finalParts
  split <;> next hkind => simp only [hkind, if_true, reduceCtorEq, if_false]; rfl

theorem finalParts_length_le (r : Request) (status : Status) : (finalParts r status).length ≤ 1 := by
  unfold finalParts
  split
  · exact Nat.zero_le _
  · exact le_rfl

theorem State.answer_of_room {s : State} {x : UPort} (h : (s.up.get x).returnQueue.length < 576) (r : Request)
    (status : Status) :
    s.answer x r status = s.onUp x fun u => { u with returnQueue := u.returnQueue ++ finalParts r status } := by
  rw [State.answer_eq_placeParts, State.placeParts_of_room]
  have hlen := finalParts_length_le r status
  omega

/-! ### The heads of the upstream ports -/

/-- What an upstream port knows of its head, with its link. -/
structure Head where
  link    : LinkState
  ingress : List Request
  waiting : Option Decoded

def Upstream.head (u : Upstream) : Head where
  link := u.link
  ingress := u.ingress
  waiting := u.waiting

theorem State.waitingHead_of_head {s t : State} {x : UPort} (h : (t.up.get x).head = (s.up.get x).head) :
    t.waitingHead x = s.waitingHead x := by
  rw [State.waitingHead, State.waitingHead, show (t.up.get x).ingress = (s.up.get x).ingress from congrArg Head.ingress h,
    show (t.up.get x).waiting = (s.up.get x).waiting from congrArg Head.waiting h]

section
variable (s : State) (x : UPort) (p : Part)

@[simp] theorem State.placePart_down : (s.placePart x p).down = s.down := by unfold State.placePart; split <;> rfl
@[simp] theorem State.placePart_ott : (s.placePart x p).ott = s.ott := by unfold State.placePart; split <;> rfl
@[simp] theorem State.placePart_entry (k : Fin 128) : (s.placePart x p).entry k = s.entry k :=
  State.entry_congr (s.placePart_ott x p) k
@[simp] theorem State.placePart_capture : (s.placePart x p).capture = s.capture := by unfold State.placePart; split <;> rfl

theorem State.placePart_up_ne {y : UPort} (h : y ≠ x) : (s.placePart x p).up.get y = s.up.get y := by
  unfold State.placePart
  split <;> exact PerUp.get_modify_ne _ _ h

theorem State.placePart_carries : s.Carries (s.placePart x p) := by
  unfold State.placePart
  split
  · exact ((State.Carries.refl s).onUp x _).raise _
  · exact (State.Carries.refl s).onUp x _

end

section
variable (s : State) (x : UPort) (r : Request) (status : Status)

@[simp] theorem State.answer_down : (s.answer x r status).down = s.down := by unfold State.answer; split <;> simp
@[simp] theorem State.answer_ott : (s.answer x r status).ott = s.ott := by unfold State.answer; split <;> simp
@[simp] theorem State.answer_entry (k : Fin 128) : (s.answer x r status).entry k = s.entry k :=
  State.entry_congr (s.answer_ott x r status) k
@[simp] theorem State.answer_capture : (s.answer x r status).capture = s.capture := by unfold State.answer; split <;> simp
theorem State.answer_carries : s.Carries (s.answer x r status) := by
  unfold State.answer
  split
  · exact .refl s
  · exact s.placePart_carries x _
  · exact s.placePart_carries x _

end

/-! ### Resolved heads (R48) -/

/-- What the resolution of a head makes of its port (R15, R48, R64). -/
def Upstream.resolved (d : Disposition) (kind : ReqKind) (u : Upstream) : Upstream :=
  { u with
    ingress := u.ingress.tail
    waiting := none
    pendingCredits := satInc u.pendingCredits
    counters := u.counters.countHead d kind }

section
variable (s : State) (x : UPort) (r : Request) (code : WindowCode) (d : Disposition) (cause : Option Cause)
  (forward : Option ForwardInfo) (status : Status)

@[simp] theorem State.raiseOpt_up : (s.raiseOpt cause).up = s.up := by cases cause <;> rfl
@[simp] theorem State.raiseOpt_down : (s.raiseOpt cause).down = s.down := by cases cause <;> rfl
@[simp] theorem State.raiseOpt_ott : (s.raiseOpt cause).ott = s.ott := by cases cause <;> rfl
@[simp] theorem State.raiseOpt_capture : (s.raiseOpt cause).capture = s.capture := by cases cause <;> rfl
@[simp] theorem State.raiseOpt_lastGrant : (s.raiseOpt cause).lastGrant = s.lastGrant := by cases cause <;> rfl
@[simp] theorem State.raiseOpt_time : (s.raiseOpt cause).time = s.time := by cases cause <;> rfl

@[simp] theorem State.resolveHead_up :
    (s.resolveHead x r code d cause forward).up = s.up.modify x (Upstream.resolved d r.kind) := by
  simp only [State.resolveHead, State.handRequest_up, State.raiseOpt_up, State.countUp, State.popHead, State.onUp_onUp]
  rfl

@[simp] theorem State.resolveHead_down : (s.resolveHead x r code d cause forward).down = s.down := by
  simp only [State.resolveHead, State.handRequest_down, State.raiseOpt_down]
  rfl

@[simp] theorem State.resolveHead_ott : (s.resolveHead x r code d cause forward).ott = s.ott := by
  simp only [State.resolveHead, State.handRequest_ott, State.raiseOpt_ott]
  rfl

@[simp] theorem State.resolveHead_entry (k : Fin 128) : (s.resolveHead x r code d cause forward).entry k = s.entry k :=
  State.entry_congr (s.resolveHead_ott x r code d cause forward) k

@[simp] theorem State.resolveHead_lastGrant : (s.resolveHead x r code d cause forward).lastGrant = s.lastGrant := by
  simp only [State.resolveHead, State.handRequest_lastGrant, State.raiseOpt_lastGrant]
  rfl

/-- The capture unit takes the head's handing as it stands (R48, R149). -/
theorem State.resolveHead_capture : (s.resolveHead x r code d cause forward).capture =
    (s.handRequest { port := x, request := r, code := code, disposition := d, forward := forward }).capture := by
  have hsame : (((s.popHead x).countUp x fun c => c.countHead d r.kind).raiseOpt cause).SameCapture s :=
    ⟨State.raiseOpt_capture _ _, State.raiseOpt_time _ _⟩
  exact (hsame.handRequest _).capture

theorem State.Carries.raiseOpt {s t : State} (h : s.Carries t) (c : Option Cause) : s.Carries (t.raiseOpt c) := by
  cases c with
  | none => exact h
  | some c => exact h.raise c

theorem State.resolveHead_carries : s.Carries (s.resolveHead x r code d cause forward) :=
  ((((State.Carries.refl s).onUp x _).onUp x _).raiseOpt cause).trans (State.handRequest_carries _ _)

theorem State.resolveHead_raises (c : Cause) :
    (s.resolveHead x r code d (some c) forward).notice.cause.getLsbD c.position = true :=
  (State.handRequest_carries _ _).causes _ (State.raise_sets _ c)

@[simp] theorem State.refuseHead_down : (s.refuseHead x r code d status).down = s.down := by simp [State.refuseHead]
@[simp] theorem State.refuseHead_ott : (s.refuseHead x r code d status).ott = s.ott := by simp [State.refuseHead]
@[simp] theorem State.refuseHead_entry (k : Fin 128) : (s.refuseHead x r code d status).entry k = s.entry k :=
  State.entry_congr (s.refuseHead_ott x r code d status) k

theorem State.refuseHead_carries : s.Carries (s.refuseHead x r code d status) :=
  (s.answer_carries x r status).trans (State.resolveHead_carries _ _ _ _ _ _ _)

end

end Sys2Proof.Machine
end

section
/-! PROOFS. Link-ups (R67, R129), arrivals on an upstream port (R16, R18, R46), the default action of a head with no hit (R55,
R56), and what a management write leaves beside its effect (R48, R52, R58). -/

namespace Sys2Proof.Machine

-- One after another: checked side by side, the theorems exceed the memory limit of check.sh.
set_option Elab.async false

/-! ### Link-ups and upstream arrivals -/

theorem whileRunning_of_released {s : State} (hheld : s.held = false) (f : State → State) : whileRunning s f = .next (f s) := by
  rw [whileRunning, hheld, if_neg Bool.false_ne_true]

/-- Settles O5: each command's own definition, its credits as a number. -/
theorem linkUpStartsThePort : Obligations.LinkUpStartsThePort :=
  ⟨fun x _ hheld => whileRunning_of_released hheld fun s => s.upstreamLinkUp x,
    fun n _ hheld => whileRunning_of_released hheld fun s => s.downstreamLinkUp n⟩

/-- The arrival of a message on a port that is UP: the structural checks, then the message (R18, R19). -/
theorem State.arrive_of_up {s : State} {p : Port} (h : s.linkOf p = .up) (m : Message) :
    s.arrive p m = if m.usable then s.receive p m else s.countDamaged p := by
  rw [State.arrive, h, if_neg (by decide)]

theorem Message.usable_request_iff {r : Request} :
    (Message.request r).usable = true ↔ r.data.length = if r.kind = .rd then 0 else r.len.toNat := by
  cases hkind : r.kind <;> simp [Message.usable, hkind]

theorem Message.usable_cr_iff {count : BitVec 7} :
    (Message.cr count).usable = true ↔ 1 ≤ count.toNat ∧ count.toNat ≤ 64 := by
  simp only [Message.usable, Bool.and_eq_true, decide_eq_true_eq]

/-- Settles O8: an arrival on an UP port is the structural check and then the queue or the credits. -/
theorem upstreamArrivalsAreQueuedOrCounted : Obligations.UpstreamArrivalsAreQueuedOrCounted := by
  refine ⟨fun x r s hheld hup => ?_, fun x count s hheld hup => ?_⟩
  · refine (whileRunning_of_released hheld fun s => s.arrive (.up x) (.request r)).trans (congrArg _ ?_)
    simp only [State.arrive_of_up (p := .up x) hup, Message.usable_request_iff]
    rfl
  · refine (whileRunning_of_released hheld fun s => s.arrive (.up x) (.cr count)).trans (congrArg _ ?_)
    simp only [State.arrive_of_up (p := .up x) hup, Message.usable_cr_iff]
    rfl

/-! ### The default action (R55, R56) -/

theorem State.PresentsOutside.decodeHead_noHit {s : State} {x : UPort} {r : Request} (h : s.PresentsOutside x r)
    (hnone : s.windowSearch x r.addr = none) : s.decodeHead x r = .noHit (s.up.get x).defaultAction := by
  rw [h.presents.decodeHead, h.2, if_neg Bool.false_ne_true, hnone, Option.elim_none]

theorem State.zeroFill_rd {r : Request} (h : r.kind = .rd) (s : State) (x : UPort) :
    s.zeroFill x r = (s.placeParts x (zeroParts r.tag r.len.toNat)).resolveHead x r .noHit .zeroFilled none none := by
  simp only [State.zeroFill, h]

theorem State.zeroFill_of_ne_rd {r : Request} (h : r.kind ≠ .rd) (s : State) (x : UPort) :
    s.zeroFill x r = (s.answer x r .ok).resolveHead x r .noHit .zeroFilled none none := by
  cases hkind : r.kind with
  | rd => exact absurd hkind h
  | wr => simp only [State.zeroFill, State.answer, hkind]
  | pw => simp only [State.zeroFill, State.answer, hkind]

/-- An OK part of zeros (R56). -/
def zeroPart (tag : Tag) (last : Bool) (bytes : Nat) : Part where
  tag := tag
  status := .ok
  last := last
  data := List.replicate bytes 0

theorem zeroParts_eq (tag : Tag) (len : Nat) :
    zeroParts tag len = List.replicate ((len - 1) / 64) (zeroPart tag false 64)
      ++ [zeroPart tag true (len - 64 * ((len - 1) / 64))] := rfl

theorem zeroParts_length {len : Nat} (h : 1 ≤ len) (tag : Tag) : (zeroParts tag len).length = (len + 63) / 64 := by
  rw [zeroParts_eq, List.length_append, List.length_replicate, List.length_singleton]
  omega

theorem zeroParts_bytes {len : Nat} (h : 1 ≤ len) (tag : Tag) :
    ((zeroParts tag len).map fun p => p.data.length).sum = len := by
  rw [zeroParts_eq, List.map_append, List.map_replicate, List.sum_append, List.sum_replicate, List.map_singleton,
    List.sum_singleton]
  simp only [zeroPart, List.length_replicate, smul_eq_mul]
  omega

/-- Each part but the last is full, and all bytes are zero (R10, R56). -/
theorem zeroParts_getElem {tag : Tag} {len j : Nat} {p : Part} (h : (zeroParts tag len)[j]? = some p) :
    p.tag = tag ∧ p.status = .ok ∧ (p.last = true ↔ j + 1 = (zeroParts tag len).length)
      ∧ (p.last = false → p.data.length = 64) ∧ ∀ b ∈ p.data, b = 0 := by
  have hlength : (zeroParts tag len).length = (len - 1) / 64 + 1 := by simp [zeroParts_eq]
  rw [hlength]
  rw [zeroParts_eq] at h
  rcases Nat.lt_trichotomy j ((len - 1) / 64) with hj | hj | hj
  · rw [List.getElem?_append_left (by simpa using hj), List.getElem?_replicate, if_pos hj] at h
    obtain rfl := Option.some.inj h
    exact ⟨rfl, rfl, iff_of_false Bool.false_ne_true (by omega), fun _ => List.length_replicate,
      fun b hb => List.eq_of_mem_replicate hb⟩
  · rw [List.getElem?_append_right (by simp [hj]), List.length_replicate, hj, Nat.sub_self] at h
    obtain rfl := Option.some.inj h
    exact ⟨rfl, rfl, iff_of_true rfl (by omega), nofun, fun b hb => List.eq_of_mem_replicate hb⟩
  · rw [List.getElem?_eq_none (by simp; omega)] at h
    cases h

/-- Settles O27: the parts are those of the zero-fill answer, as many as LEN asks. -/
theorem noHitTakesTheDefaultAction : Obligations.NoHitTakesTheDefaultAction := by
  intro x r s houtside hnone
  obtain ⟨-, -, -, hformed⟩ := houtside.presents
  obtain ⟨⟨hlen, -⟩, -⟩ := by simpa only [Request.wellFormed, Bool.and_eq_true, decide_eq_true_eq] using hformed
  rw [houtside.presents.exec_dispatch, houtside.decodeHead_noHit hnone]
  refine ⟨fun haction => ?_, fun haction => ⟨fun hkind => ?_, fun hkind => ?_⟩⟩ <;> rw [haction]
  · rfl
  · refine ⟨zeroParts r.tag r.len.toNat, ?_, zeroParts_length hlen r.tag, zeroParts_bytes hlen r.tag,
      fun j p hp => zeroParts_getElem hp, State.placeParts_of_room⟩
    rw [State.resolveOutcome, State.zeroFill_rd hkind]
  · rw [State.resolveOutcome, State.zeroFill_of_ne_rd hkind]

/-! ### Beside the effect of a management write (R48, R52, R58) -/

/-- A head answered in a return queue with room and resolved (R48, R58). -/
theorem State.answer_resolveHead_up {s : State} {x : UPort} (hroom : (s.up.get x).returnQueue.length < 576) (r : Request)
    (status : Status) (code : WindowCode) (d : Disposition) (cause : Option Cause) (forward : Option ForwardInfo) :
    ((s.answer x r status).resolveHead x r code d cause forward).up = s.up.modify x fun u =>
      Upstream.resolved d r.kind { u with returnQueue := u.returnQueue ++ finalParts r status } := by
  rw [State.resolveHead_up, State.answer_of_room hroom, State.onUp_up, PerUp.modify_modify]

/-- Settles O38: with room the answer is one part, and the resolution counts and hands over the head. -/
theorem managementWriteIsAnsweredAndCounted : Obligations.ManagementWriteIsAnsweredAndCounted := by
  intro x r s hroom
  have kept (status : Status) (d : Disposition) (cause : Option Cause) :
      ((s.answer x r status).resolveHead x r .mgmt d cause none).settings = s.settings :=
    State.kept_settings ((State.resolveHead_kept _ _ _ _ _ _ _).trans (s.answer_kept x r status))
  simp only [State.accepted, State.refused, id, State.answer_resolveHead_up hroom, State.resolveHead_down,
    State.resolveHead_ott, State.answer_down, State.answer_ott, PerUp.get_modify_self, PerUp.get_modify_other]
  refine ⟨rfl, trivial, trivial, trivial, ?_, kept .ok .mgmtDone none, fun cause => ⟨rfl, ?_, trivial, trivial, trivial,
    kept .denied .denied _⟩⟩
  · exact ((s.answer_carries x r .ok).trans (State.resolveHead_carries _ _ _ _ _ _ _)).windows
  · exact State.resolveHead_raises _ _ _ _ _ _ cause

end Sys2Proof.Machine
end

section
/-! PROOFS. The settings of the ports, the aperture and the notice unit (R43, R57, R96, R139, R175, R181, R192). -/

namespace Sys2Proof

-- One after another: checked side by side, the theorems exceed the memory limit of check.sh.
set_option Elab.async false

/-! ### The values of enumerated settings (R192) -/

theorem Machine.enumCode_eq (v : Word) : Machine.enumCode v = v.toNat % 256 := by
  rw [Machine.enumCode, BitVec.extractLsb'_toNat, Nat.shiftRight_zero]

theorem UPort.ofCode_eq (k : Nat) : UPort.ofCode k = if k ≤ 1 then some (if k = 0 then .u0 else .u1) else none := by
  rcases k with _ | _ | k <;> rfl

theorem Machine.DefaultAction.ofCode_eq (k : Nat) :
    Machine.DefaultAction.ofCode k = if k ≤ 1 then some (if k = 0 then .unmappedError else .zeroFill) else none := by
  rcases k with _ | _ | k <;> rfl

namespace Machine

/-! ### Settings taken in their range -/

theorem State.down_of_settings {s t : State} (h : t.settings = s.settings) (n : DPort) :
    (t.down.get n).settings = (s.down.get n).settings := by
  simpa [State.settings] using congrArg (PerDown.get · n) (congrArg Settings.down h)

/-- A plain setting whose register decides by the value and by the settings alone, which the answer leaves as they stand. -/
theorem State.settingTaken_of_range {s : State} {reg : Reg} {v : Word} {ok : Prop} [Decidable ok] {effect : State → State}
    (hplain : reg.plainSetting = true)
    (hstore : ∀ t : State, t.settings = s.settings → t.store reg v = if ok then some (effect t) else none) :
    s.SettingTaken reg v ok effect := by
  have hreg := Reg.ne_command_of_plainSetting hplain
  refine fun x r h => ⟨fun hok => ?_, fun hbad => ?_⟩ <;> rw [h.exec_settingWrite hplain]
  · have htaken : ∀ t : State, t.settings = s.settings → t.store reg v = some (effect t) := fun t ht => by
      rw [hstore t ht, if_pos hok]
    refine congrArg _ (State.performWrite_accepted hreg ?_ ?_)
    · rw [(State.access_of_plainSetting hplain v s).1, htaken s rfl, Option.isSome_some]
    · rw [(State.access_of_plainSetting hplain v _).2, htaken _ (s.answer_settings x r .ok), Option.getD_some]
  · have hrefused : ∀ t : State, t.settings = s.settings → t.store reg v = none := fun t ht => by
      rw [hstore t ht, if_neg hbad]
    refine congrArg _ (State.performWrite_refused hreg ?_ (refusalCause_of_plainSetting hplain v) ?_)
    · rw [(State.access_of_plainSetting hplain v s).1, hrefused s rfl, Option.isSome_none]
    · rw [(State.access_of_plainSetting hplain v _).2, hrefused _ (s.answer_settings x r .denied), Option.getD_none, id]

theorem map_inRange_eq {α : Type} {lo hi : Nat} {v : Word} {ok : Prop} [Decidable ok]
    (h : ok ↔ lo ≤ v.toNat ∧ v.toNat ≤ hi) (f : Nat → α) :
    (inRange lo hi v).map f = if ok then some (f v.toNat) else none := by
  rw [inRange]
  simp only [← h]
  split <;> rfl

/-- DEFAULT_ACTION by its code in the low byte (R57). -/
theorem State.store_defaultAction (s : State) (y : UPort) (v : Word) :
    s.store (.up y .defaultAction) v = if v.toNat % 256 ≤ 1 then
      some (s.onUp y fun u => { u with defaultAction := if v.toNat % 256 = 0 then .unmappedError else .zeroFill })
      else none := by
  rw [State.store, State.storeUp, enumCode_eq, DefaultAction.ofCode_eq]
  split <;> rfl

theorem State.store_noticePort (s : State) (v : Word) :
    s.store .noticePort v = if v.toNat % 256 ≤ 1 then
      some (s.onNotice fun u => { u with port := if v.toNat % 256 = 0 then .u0 else .u1 }) else none := by
  rw [State.store, enumCode_eq, UPort.ofCode_eq]
  split <;> rfl

/-- The low word of NOTICE_ADDR keeps the notice in one block (R175). -/
theorem State.store_noticeAddrLo (s : State) (v : Word) :
    s.store .noticeAddrLo v = if v.toNat % 4 = 0 ∧ v.toNat % 256 ≠ 252 then
      some (s.onNotice fun u => { u with addr := BitVec.ofNat 48 (u.addr.toNat / 2 ^ 32 * 2 ^ 32 + v.toNat) }) else none := by
  simp only [State.store, ← noticeAddrRefused_eq_false_iff, withLo_eq_ofNat]
  cases noticeAddrRefused v <;> rfl

theorem State.store_mgmtPermit (s : State) (v : Word) :
    s.store .mgmtPermit v = if v.setWidth 2 ≠ 0#2 then some { s with mgmtPermit := v.setWidth 2 } else none := by
  rw [State.store, ← BitVec.setWidth_eq_extractLsb' (by decide), ite_not]
  rfl

/-- Settles O46: each register takes the values of its range; DEG_ON and FENCE_LIMIT look at each other. -/
theorem portApertureAndNoticeSettings : Obligations.PortApertureAndNoticeSettings := by
  refine ⟨fun v s => ⟨fun y => ?_, fun n => ⟨?_, fun hlimit => ?_, ?_, fun hon => ?_⟩⟩, fun v s => ⟨?_, ?_, ?_, ?_, ?_, ?_⟩⟩
  · exact State.settingTaken_of_range rfl fun t _ => t.store_defaultAction y v
  · exact State.settingTaken_of_range rfl fun t _ => map_inRange_eq (by omega) _
  · refine State.settingTaken_of_range rfl fun t ht => map_inRange_eq ?_ _
    have hfence := congrArg DownSettings.fenceLimit (State.down_of_settings ht n)
    simp only [Downstream.settings] at hfence
    omega
  · exact State.settingTaken_of_range rfl fun t _ => map_inRange_eq Iff.rfl _
  · refine State.settingTaken_of_range rfl fun t ht => map_inRange_eq ?_ _
    have hdeg := congrArg DownSettings.degOn (State.down_of_settings ht n)
    simp only [Downstream.settings] at hdeg
    omega
  · refine s.settingTaken_of_store rfl fun t => ?_
    rw [State.store, ← BitVec.setWidth_eq_extractLsb' (by decide)]
  · exact State.settingTaken_of_range rfl fun t _ => t.store_mgmtPermit v
  · exact State.settingTaken_of_range rfl fun t _ => t.store_noticeAddrLo v
  · refine s.settingTaken_of_store rfl fun t => ?_
    simp only [State.store, withHi_eq_ofNat]
  · exact State.settingTaken_of_range rfl fun t _ => t.store_noticePort v
  · exact State.settingTaken_of_range rfl fun t _ => map_inRange_eq (by omega) _

end Machine
end Sys2Proof
end

section
/-! PROOFS. The allocation event (R60, R63, R72 to R75, R113): what each arbiter gives to a waiting head, and the event at which
one head alone is served. -/

namespace Sys2Proof.Machine

-- One after another: checked side by side, the theorems exceed the memory limit of check.sh.
set_option Elab.async false

/-! ### Claims (R72, R73, R113) -/

theorem State.freeSlots_pos_iff {s : State} {n : DPort} : 1 ≤ s.freeSlots n ↔ (s.down.get n).egress.length < 32 :=
  Nat.sub_pos_iff_lt

theorem State.wantsSlot_eq_some_iff {s : State} {x : UPort} {n : DPort} :
    s.wantsSlot x = some n ↔ ∃ r d, s.waitingHead x = some (r, d) ∧ d.egress = n ∧ s.available n = true
      ∧ (s.down.get n).egress.length < 32 ∧ (r.kind = .pw ∨ s.eligible x = true) := by
  unfold State.wantsSlot
  split
  · next r d hhead =>
    simp only [Option.ite_none_right_eq_some, Bool.and_eq_true, Bool.or_eq_true, decide_eq_true_eq, beq_iff_eq,
      Option.some.injEq, State.freeSlots_pos_iff, hhead, Prod.mk.injEq]
    constructor
    · rintro ⟨⟨⟨hservice, hfree⟩, hentry⟩, rfl⟩
      exact ⟨r, d, ⟨rfl, rfl⟩, rfl, hservice, hfree, hentry⟩
    · rintro ⟨_, _, ⟨rfl, rfl⟩, rfl, hservice, hfree, hentry⟩
      exact ⟨⟨⟨hservice, hfree⟩, hentry⟩, rfl⟩
  · next hhead => simp [hhead]

theorem State.admits_of_wantsSlot_none {s : State} {x : UPort} (h : s.wantsSlot x = none) : s.admits x = false := by
  rw [State.admits, h]

theorem State.wantsSlot_isSome_of_admits {s : State} {x : UPort} (h : s.admits x = true) : ∃ n, s.wantsSlot x = some n := by
  cases hwants : s.wantsSlot x with
  | none =>
    rw [State.admits_of_wantsSlot_none hwants] at h
    cases h
  | some n => exact ⟨n, rfl⟩

/-- A head that wants a slot is admitted, but for the last slot of a queue that the other head wants too while the port of the
first holds the pointer (R113). -/
theorem State.admits_iff {s : State} {x : UPort} {n : DPort} (h : s.wantsSlot x = some n) :
    s.admits x = true ↔
      ¬ (s.wantsSlot x.other = some n ∧ (s.down.get n).egress.length = 31 ∧ (s.down.get n).admission = x) := by
  obtain ⟨_, _, -, -, -, hroom, -⟩ := State.wantsSlot_eq_some_iff.mp h
  have hone : s.freeSlots n = 1 ↔ (s.down.get n).egress.length = 31 := by
    rw [State.freeSlots, Config.egressCapacity]
    omega
  simp only [State.admits, h, Bool.not_eq_true', ← Bool.not_eq_true, Bool.and_eq_true, beq_iff_eq, hone, and_assoc]

theorem State.firstFree_eq_some_iff {s : State} {k : Fin 128} :
    s.firstFree = some k ↔ (s.entry k).state = .free ∧ ∀ j, j < k → (s.entry j).state ≠ .free := by
  simp only [State.firstFree, ottIndices, ← Fin.find?_eq_find?_finRange, Fin.find?_eq_some_iff, beq_iff_eq,
    beq_eq_false_iff_ne, ne_eq]

/-! ### The numbers of entries (R72) -/

theorem State.freeEntries_pos_iff {s : State} : 0 < s.freeEntries ↔ ∃ k, (s.entry k).state = .free := by
  simp only [State.freeEntries, State.ott_toList, List.countP_pos_iff, List.mem_map, List.mem_finRange, true_and,
    exists_exists_eq_and, beq_iff_eq]

theorem State.firstFree_isSome {s : State} (h : 0 < s.freeEntries) : ∃ k, s.firstFree = some k := by
  obtain ⟨k, hk⟩ := State.freeEntries_pos_iff.mp h
  refine Option.isSome_iff_exists.mp (List.find?_isSome.mpr ⟨k, List.mem_finRange k, ?_⟩)
  rw [hk, beq_self_eq_true]

theorem State.countP_onEntry (s : State) (k : Fin 128) (f : OttEntry → OttEntry) (p : OttEntry → Bool) :
    (s.onEntry k f).ott.toList.countP p =
      (s.ott.toList.countP p - if p (s.entry k) then 1 else 0) + if p (f (s.entry k)) then 1 else 0 := by
  rw [State.onEntry_ott, Vector.countP_toList, Vector.countP_toList, Vector.countP_set]
  rfl

/-- Filling a FREE entry leaves one less (R72). -/
theorem State.freeEntries_fill {s : State} {k : Fin 128} {f : OttEntry → OttEntry} (h : (s.entry k).state = .free)
    (hf : (f (s.entry k)).state ≠ .free) : (s.onEntry k f).freeEntries = s.freeEntries - 1 := by
  rw [State.freeEntries, State.countP_onEntry, h, beq_self_eq_true, if_pos rfl, beq_eq_false_iff_ne.mpr hf,
    if_neg Bool.false_ne_true]
  rfl

/-- The requester of an entry that was FREE uses one more (R72). -/
theorem State.used_fill {s : State} {k : Fin 128} {f : OttEntry → OttEntry} (h : (s.entry k).state = .free)
    (hf : (f (s.entry k)).state ≠ .free) : (s.onEntry k f).used (f (s.entry k)).src = s.used (f (s.entry k)).src + 1 := by
  have hwas : ((s.entry k).state != .free && (s.entry k).src == (f (s.entry k)).src) = false := by simp [h]
  have his : ((f (s.entry k)).state != .free && (f (s.entry k)).src == (f (s.entry k)).src) = true := by simp [hf]
  rw [State.used, State.countP_onEntry, hwas, his]
  rfl

/-! ### The service of a head (R74) -/

/-- The table with entry k filled for the head of Ux, which holds the last-grant record (R74, R75). -/
def State.filled (s : State) (x : UPort) (r : Request) (d : Decoded) (kind : AnsweredKind) (k : Fin 128) : State :=
  ({ s with lastGrant := x } : State).onEntry k fun _ => s.granted x r d kind k

theorem State.filled_entry (s : State) (x : UPort) (r : Request) (d : Decoded) (kind : AnsweredKind) (k j : Fin 128) :
    (s.filled x r d kind k).entry j = if j = k then s.granted x r d kind k else s.entry j :=
  State.entry_onEntry _ k j _

theorem ReqKind.answered_eq_none_iff {kind : ReqKind} : kind.answered = none ↔ kind = .pw := by cases kind <;> decide

theorem ReqKind.answered_of_ne_pw {kind : ReqKind} (h : kind ≠ .pw) : ∃ k, kind.answered = some k :=
  Option.ne_none_iff_exists'.mp (mt ReqKind.answered_eq_none_iff.mp h)

theorem State.serve_refused (s : State) (x : UPort) : s.serve x false = (s, none) := by
  unfold State.serve
  split
  · next heq _ => cases heq
  · rfl

section
variable {s : State} {x : UPort} {r : Request} {d : Decoded}

theorem State.serve_posted (hhead : s.waitingHead x = some (r, d)) (hkind : r.kind = .pw) :
    s.serve x true = (s, some .slot) := by
  simp only [State.serve, hhead, hkind, ReqKind.answered]

theorem State.serve_entry {kind : AnsweredKind} {k : Fin 128} (hhead : s.waitingHead x = some (r, d))
    (hkind : r.kind.answered = some kind) (heligible : s.eligible x = true) (hfirst : s.firstFree = some k) :
    s.serve x true = (s.filled x r d kind k, some (.entry k)) := by
  simp only [State.serve, hhead, hkind, heligible, hfirst, State.filled]

theorem State.serve_ineligible (hhead : s.waitingHead x = some (r, d)) (hkind : r.kind ≠ .pw)
    (heligible : s.eligible x = false) (admitted : Bool) : s.serve x admitted = (s, none) := by
  obtain ⟨kind, hkind⟩ := ReqKind.answered_of_ne_pw hkind
  cases admitted with
  | false => exact s.serve_refused x
  | true => simp only [State.serve, hhead, hkind, heligible]

end

/-- What service gives: nothing, the slot of a PW, or the FREE entry of lowest index with the slot (R74). -/
theorem State.serve_cases (s : State) (x : UPort) (admitted : Bool) :
    s.serve x admitted = (s, none)
    ∨ ∃ r d, admitted = true ∧ s.waitingHead x = some (r, d)
      ∧ (r.kind = .pw ∧ s.serve x admitted = (s, some .slot)
        ∨ ∃ kind k, r.kind.answered = some kind ∧ s.eligible x = true ∧ s.firstFree = some k
          ∧ s.serve x admitted = (s.filled x r d kind k, some (.entry k))) := by
  cases admitted with
  | false => exact .inl (s.serve_refused x)
  | true =>
    cases hhead : s.waitingHead x with
    | none => exact .inl (by simp only [State.serve, hhead])
    | some p =>
      obtain ⟨r, d⟩ := p
      by_cases hkind : r.kind = .pw
      · exact .inr ⟨r, d, rfl, rfl, .inl ⟨hkind, State.serve_posted hhead hkind⟩⟩
      · cases heligible : s.eligible x with
        | false => exact .inl (State.serve_ineligible hhead hkind heligible true)
        | true =>
          have hfree : 0 < s.freeEntries := by
            simp only [State.eligible, Bool.and_eq_true, decide_eq_true_eq] at heligible
            exact heligible.1
          obtain ⟨kind, hkind⟩ := ReqKind.answered_of_ne_pw hkind
          obtain ⟨k, hfirst⟩ := State.firstFree_isSome hfree
          exact .inr ⟨r, d, rfl, rfl, .inr ⟨kind, k, hkind, rfl, hfirst, State.serve_entry hhead hkind heligible hfirst⟩⟩

theorem State.serve_of_ticket_none {s : State} {x : UPort} {admitted : Bool} (h : (s.serve x admitted).2 = none) :
    s.serve x admitted = (s, none) := by
  rcases s.serve_cases x admitted with hserve | ⟨r, d, -, -, ⟨-, hserve⟩ | ⟨kind, k, -, -, -, hserve⟩⟩
  · exact hserve
  · rw [hserve] at h
    cases h
  · rw [hserve] at h
    cases h

/-! ### Joining and resolving (R60, R113) -/

/-- A port whose head is forwarded (R48, R60, R64). -/
def Upstream.forwarded (u : Upstream) : Upstream :=
  { u with
    ingress := u.ingress.tail
    waiting := none
    pendingCredits := satInc u.pendingCredits
    counters := { u.counters with forwarded := satInc u.counters.forwarded } }

theorem Upstream.resolved_forwarded (kind : ReqKind) : Upstream.resolved .forwarded kind = Upstream.forwarded := rfl

@[simp] theorem State.join_none (s : State) (x : UPort) : s.join x none = s := rfl

@[simp] theorem State.resolveForwarded_none (s : State) (x : UPort) : s.resolveForwarded x none = s := rfl

theorem State.join_some {s : State} {x : UPort} {r : Request} {d : Decoded} (h : s.waitingHead x = some (r, d))
    (ticket : Ticket) :
    s.join x (some ticket) =
      s.onDown d.egress fun q => { q with egress := q.egress ++ [itemOf r d ticket], admission := x } := by
  simp only [State.join, h]

theorem State.resolveForwarded_some {s : State} {x : UPort} {r : Request} {d : Decoded} (h : s.waitingHead x = some (r, d))
    (ticket : Ticket) :
    s.resolveForwarded x (some ticket) = s.resolveHead x r (.window d.window d.capture) .forwarded none
      (forwardHanding x r d ticket).forward := by
  simp only [State.resolveForwarded, h]

/-- The tickets of the heads of Ux and of the other port, resolved in the order that their grants give (log 10). -/
def State.resolveBoth (s : State) (x : UPort) (ticket ticket' : Option Ticket) : State :=
  match x with
  | .u0 => s.resolveTickets .u0 ticket ticket'
  | .u1 => s.resolveTickets .u1 ticket' ticket

theorem State.resolveBoth_none_right (s : State) (x : UPort) (ticket : Option Ticket) :
    s.resolveBoth x ticket none = s.resolveForwarded x ticket := by
  cases x <;> rcases ticket with _ | _ | _ <;> rfl

theorem State.resolveBoth_none_left (s : State) (x : UPort) (ticket : Option Ticket) :
    s.resolveBoth x none ticket = s.resolveForwarded x.other ticket := by
  cases x <;> rcases ticket with _ | _ | _ <;> rfl

theorem State.resolveBoth_entries (s : State) (x : UPort) (k j : Fin 128) :
    s.resolveBoth x (some (.entry k)) (some (.entry j)) =
      (s.resolveForwarded x (some (.entry k))).resolveForwarded x.other (some (.entry j)) := by
  cases x <;> rfl

/-- Two heads are resolved one after the other, whichever comes first. -/
theorem State.resolveBoth_some (s : State) (x : UPort) (ticket ticket' : Ticket) :
    ∃ c : Nat, s.resolveBoth x (some ticket) (some ticket') =
        (({ s with choices := c } : State).resolveForwarded x (some ticket)).resolveForwarded x.other (some ticket')
      ∨ s.resolveBoth x (some ticket) (some ticket') =
        (({ s with choices := c } : State).resolveForwarded x.other (some ticket')).resolveForwarded x (some ticket) := by
  cases ticket with
  | entry k =>
    cases ticket' with
    | entry j => exact ⟨s.choices, .inl (s.resolveBoth_entries x k j)⟩
    | slot =>
      refine ⟨s.choices + 1, ?_⟩
      cases x <;> simp only [State.resolveBoth, State.resolveTickets] <;> cases freeFirst s.choices
      exacts [.inl rfl, .inr rfl, .inr rfl, .inl rfl]
  | slot =>
    refine ⟨s.choices + 1, ?_⟩
    cases x <;> simp only [State.resolveBoth, State.resolveTickets] <;> cases freeFirst s.choices
    exacts [.inl rfl, .inr rfl, .inr rfl, .inl rfl]

/-- The items of both heads join, of the port that joins first in the lead (R113). -/
def State.joinBoth (s : State) (first x : UPort) (ticket ticket' : Option Ticket) : State :=
  if first = x then (s.join x ticket).join x.other ticket' else (s.join x.other ticket').join x ticket

theorem State.joinBoth_none_right (s : State) (first x : UPort) (ticket : Option Ticket) :
    s.joinBoth first x ticket none = s.join x ticket := ite_self _

theorem State.joinBoth_none_left (s : State) (first x : UPort) (ticket : Option Ticket) :
    s.joinBoth first x none ticket = s.join x.other ticket := ite_self _

/-- The event, as seen from the port that the allocation arbiter serves first (R74). -/
theorem State.allocate_eq {s : State} {x : UPort} (h : s.lastGrant = x.other) :
    s.allocate =
      let served := s.serve x (s.admits x)
      let served' := served.1.serve x.other (s.admits x.other)
      (served'.1.joinBoth s.joinsFirst x served.2 served'.2).resolveBoth x served.2 served'.2 := by
  unfold State.allocate State.joinBoth State.resolveBoth
  rw [h, UPort.other_other]
  cases x <;> cases s.joinsFirst <;> rfl

/-- Where the head served second gets no ticket, the first is forwarded alone. -/
theorem State.allocate_first {s : State} {x : UPort} (h : s.lastGrant = x.other)
    (hnone : ((s.serve x (s.admits x)).1.serve x.other (s.admits x.other)).2 = none) :
    s.allocate = ((s.serve x (s.admits x)).1.join x (s.serve x (s.admits x)).2).resolveForwarded x
      (s.serve x (s.admits x)).2 := by
  rw [State.allocate_eq h]
  dsimp only
  rw [State.serve_of_ticket_none hnone]
  exact (State.resolveBoth_none_right _ _ _).trans (congrArg (State.resolveForwarded · x _) (State.joinBoth_none_right _ _ _ _))

/-- Where the other head is not admitted, the head of Ux is forwarded alone or not at all. -/
theorem State.allocate_alone {s : State} {x : UPort} (h : s.admits x.other = false) :
    s.allocate = ((s.serve x (s.admits x)).1.join x (s.serve x (s.admits x)).2).resolveForwarded x
      (s.serve x (s.admits x)).2 := by
  rcases UPort.eq_or_other x s.lastGrant with hlast | hlast
  · rw [State.allocate_eq (x := x.other) (by rw [hlast, UPort.other_other]), UPort.other_other, h, State.serve_refused]
    refine (State.resolveBoth_none_left _ _ _).trans ?_
    rw [State.joinBoth_none_left, UPort.other_other]
  · refine State.allocate_first hlast ?_
    rw [h, State.serve_refused]

/-! ### One head alone -/

theorem State.waitingHead_served (s : State) (x y : UPort) (admitted : Bool) :
    (s.serve x admitted).1.waitingHead y = s.waitingHead y :=
  State.waitingHead_congr (s.serve_units x admitted).1 y

/-- The head of Ux joins its queue and resolves FORWARDED (R60). -/
theorem State.forward_with {s : State} {x : UPort} {r : Request} {d : Decoded} (hhead : s.waitingHead x = some (r, d))
    (ticket : Ticket) :
    (s.join x (some ticket)).resolveForwarded x (some ticket) =
      (s.onDown d.egress fun q =>
        { q with egress := q.egress ++ [itemOf r d ticket], admission := x }).resolveHead x r (.window d.window d.capture)
          .forwarded none (forwardHanding x r d ticket).forward := by
  rw [State.join_some hhead, State.resolveForwarded_some]
  exact hhead

theorem State.allocate_posted {s : State} {x : UPort} {r : Request} {d : Decoded} (hother : s.admits x.other = false)
    (hadmits : s.admits x = true) (hhead : s.waitingHead x = some (r, d)) (hkind : r.kind = .pw) :
    s.allocate = (s.onDown d.egress fun q =>
      { q with egress := q.egress ++ [itemOf r d .slot], admission := x }).resolveHead x r (.window d.window d.capture)
        .forwarded none (forwardHanding x r d .slot).forward := by
  rw [State.allocate_alone hother, hadmits, State.serve_posted hhead hkind]
  exact State.forward_with hhead .slot

theorem State.allocate_entry {s : State} {x : UPort} {r : Request} {d : Decoded} {kind : AnsweredKind} {k : Fin 128}
    (hother : s.admits x.other = false) (hadmits : s.admits x = true) (hhead : s.waitingHead x = some (r, d))
    (hkind : r.kind.answered = some kind) (heligible : s.eligible x = true) (hfirst : s.firstFree = some k) :
    s.allocate = ((s.filled x r d kind k).onDown d.egress fun q =>
      { q with egress := q.egress ++ [itemOf r d (.entry k)], admission := x }).resolveHead x r
        (.window d.window d.capture) .forwarded none (forwardHanding x r d (.entry k)).forward := by
  rw [State.allocate_alone hother, hadmits, State.serve_entry hhead hkind heligible hfirst]
  exact State.forward_with (s := s.filled x r d kind k) hhead (.entry k)

theorem State.allocate_of_no_claim {s : State} (h : ∀ x, s.wantsSlot x = none) : s.allocate = s := by
  rw [State.allocate_alone (x := .u0) (State.admits_of_wantsSlot_none (h _)), State.admits_of_wantsSlot_none (h _),
    State.serve_refused]
  rfl

/-! ### FORWARDING of the only claimant (R60, R61) -/

/-- A head that waits, and a head whose decode comes to FORWARD, each meet the allocation event. -/
theorem State.exec_forwarding_of_window {x : UPort} {r : Request} {d : Decoded} {s s' : State} (hheld : s.held = false)
    (h : (s.waitingHead x = some (r, d) ∧ s' = s)
      ∨ (s.PresentsOutside x r ∧ s.windowSearch x r.addr = some d.window
          ∧ (s.window d.window).active.targetKind ≠ .refuse
          ∧ (s.window d.window).active.permit.getLsbD r.kind.code = true
          ∧ d = s.decodeResult r d.window ∧ s' = s.decodedForward x r d.window))
    (hservice : s'.available d.egress = true) :
    exec (.forwarding x) s = .next s'.allocate ∧ s'.waitingHead x = some (r, d) := by
  rcases h with ⟨hhead, rfl⟩ | ⟨houtside, hsearch, hkind, hpermit, hd, rfl⟩
  · exact ⟨(forwardDecodeMeetsTheAllocationEvent x r s').2 hheld ⟨d, hhead⟩, hhead⟩
  · have hport : (s.window d.window).active.egressPort r.addr = d.egress := (congrArg Decoded.egress hd).symm
    refine ⟨((forwardDecodeMeetsTheAllocationEvent x r s).1 d.window houtside hsearch hkind hpermit ?_).2, ?_⟩
    · rw [hport]
      exact hservice
    · obtain ⟨-, hhead, -, -⟩ := houtside.presents
      unfold State.undecodedHead at hhead
      split at hhead
      · next r' rest hingress _ =>
        obtain rfl := Option.some.inj hhead
        simp only [State.waitingHead, State.decodedForward, State.onUp_up, State.onWindow_up, PerUp.get_modify_self, hingress,
          ← hd]
      · cases hhead

/-- Settles O30: with no other claimant the event serves the head of Ux, whatever port the arbiter serves first. -/
theorem forwardingTakesEntryAndSlot : Obligations.ForwardingTakesEntryAndSlot := by
  intro x r d s s' hheld hcase hservice hroom hother
  obtain ⟨hexec, hhead⟩ := State.exec_forwarding_of_window hheld hcase hservice
  have halone : s'.admits x.other = false := State.admits_of_wantsSlot_none hother
  have admitted (hentry : r.kind = .pw ∨ s'.eligible x = true) : s'.admits x = true := by
    refine (State.admits_iff (State.wantsSlot_eq_some_iff.mpr ⟨r, d, hhead, rfl, hservice, hroom, hentry⟩)).mpr ?_
    rintro ⟨hwants, -⟩
    rw [hother] at hwants
    cases hwants
  refine ⟨fun hkind => ?_, fun kind k hkind heligible hfree hlowest => ?_⟩ <;> rw [hexec]
  · rw [State.allocate_posted halone (admitted (.inl hkind)) hhead hkind]
    rfl
  · rw [State.allocate_entry halone (admitted (.inr heligible)) hhead hkind heligible
      (State.firstFree_eq_some_iff.mpr ⟨hfree, hlowest⟩)]
    rfl

end Sys2Proof.Machine
end

section
/-! PROOFS. The allocation event as a whole (R60, R63, R73 to R75, R113): what any event does to the ports and the table, the last
slot and the last entry, and the event that forwards both heads. -/

namespace Sys2Proof.Machine

-- One after another: checked side by side, the theorems exceed the memory limit of check.sh.
set_option Elab.async false

/-! ### What service does (R74, R75) -/

theorem State.granted_congr {s t : State} (hdown : t.down = s.down) (htime : t.time = s.time) (hcapture : t.capture = s.capture)
    (x : UPort) (r : Request) (d : Decoded) (kind : AnsweredKind) (k : Fin 128) :
    t.granted x r d kind k = s.granted x r d kind k := by
  rw [State.granted, State.granted, hdown, htime, hcapture]

theorem State.Grants.congr {s t : State} {x : UPort} {k : Fin 128} {e : OttEntry} (hup : t.up = s.up) (hdown : t.down = s.down)
    (htime : t.time = s.time) (hcapture : t.capture = s.capture) (h : t.Grants x k e) : s.Grants x k e := by
  obtain ⟨r, d, kind, hhead, hkind, rfl⟩ := h
  exact ⟨r, d, kind, (State.waitingHead_congr hup x).symm.trans hhead, hkind, State.granted_congr hdown htime hcapture ..⟩

/-- The service that gave the head of Ux this ticket, or none: the ports stay, and an entry that is taken was FREE. -/
structure State.Serves (s t : State) (x : UPort) (ticket : Option Ticket) : Prop where
  up        : t.up = s.up
  down      : t.down = s.down
  capture   : t.capture = s.capture
  time      : t.time = s.time
  carries   : s.Carries t
  grants    : ∀ k, ticket = some (.entry k) → (s.entry k).state = .free ∧ s.Grants x k (t.entry k)
  entry     : ∀ k, ticket ≠ some (.entry k) → t.entry k = s.entry k
  lastGrant : t.lastGrant = if ∃ k, ticket = some (.entry k) then x else s.lastGrant

theorem State.Serves.of_same (s : State) (x : UPort) {ticket : Option Ticket} (h : ∀ k, ticket ≠ some (.entry k)) :
    s.Serves s x ticket :=
  ⟨rfl, rfl, rfl, rfl, .refl s, fun k hk => absurd hk (h k), fun _ _ => rfl, (if_neg fun ⟨k, hk⟩ => h k hk).symm⟩

theorem State.serve_serves (s : State) (x : UPort) (admitted : Bool) :
    s.Serves (s.serve x admitted).1 x (s.serve x admitted).2 := by
  rcases s.serve_cases x admitted with hserve | ⟨r, d, -, hhead, ⟨-, hserve⟩ | ⟨kind, k, hkind, -, hfirst, hserve⟩⟩ <;>
    rw [hserve]
  · exact .of_same s x nofun
  · exact .of_same s x nofun
  · have hcarries : s.Carries (s.filled x r d kind k) := ((State.Carries.refl s).lastGrant x).onEntry k _
    refine ⟨rfl, rfl, rfl, rfl, hcarries, fun j hj => ?_, fun j hj => ?_, (if_pos ⟨k, rfl⟩).symm⟩
    · cases hj
      refine ⟨(State.firstFree_eq_some_iff.mp hfirst).1, r, d, kind, hhead, hkind, ?_⟩
      rw [State.filled_entry, if_pos rfl]
    · rw [State.filled_entry, if_neg]
      rintro rfl
      exact hj rfl

/-- An entry that is granted is no longer FREE (R75). -/
theorem State.Grants.pending {s : State} {x : UPort} {k : Fin 128} {e : OttEntry} (h : s.Grants x k e) :
    e.state = .pending := by
  obtain ⟨_, _, _, _, _, rfl⟩ := h
  rfl

/-- The services of an event, of the head of Ux and then of the other head (R74). -/
structure State.ServesBoth (s t : State) (x : UPort) (ticket ticket' : Option Ticket) : Prop where
  up        : t.up = s.up
  down      : t.down = s.down
  capture   : t.capture = s.capture
  time      : t.time = s.time
  carries   : s.Carries t
  distinct  : ∀ k, ticket = some (.entry k) → ticket' ≠ some (.entry k)
  grants    : ∀ k, ticket = some (.entry k) → (s.entry k).state = .free ∧ s.Grants x k (t.entry k)
  grants'   : ∀ k, ticket' = some (.entry k) → (s.entry k).state = .free ∧ s.Grants x.other k (t.entry k)
  entry     : ∀ k, ticket ≠ some (.entry k) → ticket' ≠ some (.entry k) → t.entry k = s.entry k
  lastGrant : t.lastGrant = if ∃ k, ticket' = some (.entry k) then x.other
    else if ∃ k, ticket = some (.entry k) then x else s.lastGrant

theorem State.Serves.both {s t r : State} {x : UPort} {ticket ticket' : Option Ticket} (h : s.Serves t x ticket)
    (h' : t.Serves r x.other ticket') : s.ServesBoth r x ticket ticket' := by
  have hdistinct (k : Fin 128) (htk : ticket = some (.entry k)) : ticket' ≠ some (.entry k) := fun htk' => by
    have hfree := (h'.grants k htk').1
    rw [(h.grants k htk).2.pending] at hfree
    cases hfree
  refine ⟨h'.up.trans h.up, h'.down.trans h.down, h'.capture.trans h.capture, h'.time.trans h.time,
    h.carries.trans h'.carries, hdistinct, fun k htk => ?_, fun k htk' => ?_, fun k htk htk' => ?_, ?_⟩
  · rw [h'.entry k (hdistinct k htk)]
    exact h.grants k htk
  · obtain ⟨hfree, hgrants⟩ := h'.grants k htk'
    rw [h.entry k fun htk => hdistinct k htk htk'] at hfree
    exact ⟨hfree, hgrants.congr h.up h.down h.time h.capture⟩
  · rw [h'.entry k htk', h.entry k htk]
  · rw [h'.lastGrant, h.lastGrant]

/-- Both services, then the items, then the heads. -/
theorem State.allocate_serves {s : State} {x : UPort} (h : s.lastGrant = x.other) :
    ∃ t ticket ticket', s.ServesBoth t x ticket ticket' ∧ (ticket.isSome = true → s.admits x = true)
      ∧ (ticket'.isSome = true → s.admits x.other = true)
      ∧ s.allocate = (t.joinBoth s.joinsFirst x ticket ticket').resolveBoth x ticket ticket' :=
  ⟨_, _, _, (s.serve_serves x (s.admits x)).both (State.serve_serves _ x.other (s.admits x.other)),
    State.admitted_of_ticket, State.admitted_of_ticket, State.allocate_eq h⟩

/-! ### What joining does (R113) -/

/-- An item joins an egress queue, and the port of its head takes the pointer (R113). -/
def Downstream.joined (x : UPort) (item : EgressItem) (q : Downstream) : Downstream :=
  { q with egress := q.egress ++ [item], admission := x }

/-- A downstream port that items may have joined. -/
def Downstream.Joins (d e : Downstream) : Prop :=
  ∃ items admission, e = { d with egress := d.egress ++ items, admission := admission }

theorem Downstream.Joins.refl (d : Downstream) : d.Joins d := ⟨[], d.admission, by rw [List.append_nil]⟩

theorem Downstream.Joins.trans {d e f : Downstream} (h : d.Joins e) (h' : e.Joins f) : d.Joins f := by
  obtain ⟨items, admission, rfl⟩ := h
  obtain ⟨items', admission', rfl⟩ := h'
  exact ⟨items ++ items', admission', by rw [List.append_assoc]⟩

/-- The item of a head joins the queue of its own egress port alone. -/
theorem State.join_down (s : State) (x : UPort) (ticket : Option Ticket) (n : DPort) :
    (s.down.get n).Joins ((s.join x ticket).down.get n)
      ∧ ((s.join x ticket).down.get n ≠ s.down.get n →
        ticket.isSome = true ∧ ∃ r d, s.waitingHead x = some (r, d) ∧ d.egress = n) := by
  unfold State.join
  split
  · exact ⟨.refl _, fun h => absurd rfl h⟩
  · split
    · next r d hhead =>
      rw [State.onDown_down, PerDown.get_modify]
      split
      · next hn => exact ⟨⟨_, x, rfl⟩, fun _ => ⟨rfl, r, d, hhead, hn.symm⟩⟩
      · exact ⟨.refl _, fun h => absurd rfl h⟩
    · exact ⟨.refl _, fun h => absurd rfl h⟩

/-- Joining changes the queues of the downstream ports alone. -/
theorem State.join_only (s : State) (x : UPort) (ticket : Option Ticket) :
    s.join x ticket = { s with down := (s.join x ticket).down } := by
  unfold State.join
  split
  · rfl
  · split <;> rfl

theorem State.joinBoth_only (s : State) (first x : UPort) (ticket ticket' : Option Ticket) :
    s.joinBoth first x ticket ticket' = { s with down := (s.joinBoth first x ticket ticket').down } := by
  unfold State.joinBoth
  split <;> rw [State.join_only (s.join _ _), State.join_only s]

theorem State.joinBoth_down (s : State) (first x : UPort) (ticket ticket' : Option Ticket) (n : DPort) :
    (s.down.get n).Joins ((s.joinBoth first x ticket ticket').down.get n)
      ∧ ((s.joinBoth first x ticket ticket').down.get n ≠ s.down.get n →
        (ticket.isSome = true ∧ ∃ r d, s.waitingHead x = some (r, d) ∧ d.egress = n)
          ∨ ticket'.isSome = true ∧ ∃ r d, s.waitingHead x.other = some (r, d) ∧ d.egress = n) := by
  have step (y z : UPort) (ty tz : Option Ticket) :
      (s.down.get n).Joins (((s.join y ty).join z tz).down.get n)
        ∧ (((s.join y ty).join z tz).down.get n ≠ s.down.get n →
          (ty.isSome = true ∧ ∃ r d, s.waitingHead y = some (r, d) ∧ d.egress = n)
            ∨ tz.isSome = true ∧ ∃ r d, s.waitingHead z = some (r, d) ∧ d.egress = n) := by
    obtain ⟨hjoins, hchanged⟩ := s.join_down y ty n
    obtain ⟨hjoins', hchanged'⟩ := (s.join y ty).join_down z tz n
    rw [State.waitingHead_congr (s.join_up y ty)] at hchanged'
    refine ⟨hjoins.trans hjoins', fun h => ?_⟩
    by_cases hsame : ((s.join y ty).join z tz).down.get n = (s.join y ty).down.get n
    · exact .inl (hchanged (hsame ▸ h))
    · exact .inr (hchanged' hsame)
  unfold State.joinBoth
  split
  · exact step x x.other ticket ticket'
  · obtain ⟨hjoins, hchanged⟩ := step x.other x ticket' ticket
    exact ⟨hjoins, fun h => (hchanged h).symm⟩

/-! ### What the resolution of tickets does (R48, R60) -/

/-- Heads leave their ports, which then stand so; but for the capture unit and the notice unit nothing else changes. -/
structure State.Resolves (s t : State) (ports : PerUp Upstream) : Prop where
  up        : t.up = ports
  down      : t.down = s.down
  ott       : t.ott = s.ott
  lastGrant : t.lastGrant = s.lastGrant
  carries   : s.Carries t

theorem State.Resolves.of_choices {s t : State} {c : Nat} {ports : PerUp Upstream}
    (h : ({ s with choices := c } : State).Resolves t ports) : s.Resolves t ports :=
  ⟨h.up, h.down, h.ott, h.lastGrant, ⟨h.carries.windows, h.carries.outputs, h.carries.causes⟩⟩

theorem State.resolveForwarded_resolves {s : State} {x : UPort} {ticket : Option Ticket}
    (hticket : ticket.isSome = true → ∃ p, s.waitingHead x = some p) :
    s.Resolves (s.resolveForwarded x ticket) (s.up.modify x fun u => if ticket.isSome then u.forwarded else u) := by
  cases ticket with
  | none => exact ⟨(PerUp.modify_id _ rfl).symm, rfl, rfl, rfl, .refl s⟩
  | some ticket =>
    obtain ⟨⟨r, d⟩, hhead⟩ := hticket rfl
    rw [State.resolveForwarded_some hhead]
    exact ⟨State.resolveHead_up .., State.resolveHead_down .., State.resolveHead_ott .., State.resolveHead_lastGrant ..,
      State.resolveHead_carries ..⟩

/-- The ports of two heads, of which those that hold tickets are forwarded. -/
def PerUp.forwardedWith (p : PerUp Upstream) (x : UPort) (ticket ticket' : Option Ticket) : PerUp Upstream :=
  (p.modify x fun u => if ticket.isSome then u.forwarded else u).modify x.other fun u =>
    if ticket'.isSome then u.forwarded else u

theorem PerUp.forwardedWith_swap (p : PerUp Upstream) (x : UPort) (ticket ticket' : Option Ticket) :
    p.forwardedWith x.other ticket' ticket = p.forwardedWith x ticket ticket' := by
  cases x <;> rfl

theorem PerUp.get_forwardedWith (p : PerUp Upstream) (x y : UPort) (ticket ticket' : Option Ticket) :
    (p.forwardedWith x ticket ticket').get y =
      if (if y = x then ticket else ticket').isSome then (p.get y).forwarded else p.get y := by
  rcases UPort.eq_or_other x y with rfl | rfl
  · rw [PerUp.forwardedWith, if_pos rfl, PerUp.get_modify_ne _ _ (UPort.ne_other y), PerUp.get_modify_self]
  · rw [PerUp.forwardedWith, if_neg (UPort.other_ne x), PerUp.get_modify_self, PerUp.get_modify_other]

theorem State.waitingHead_of_get {s t : State} {x : UPort} (h : t.up.get x = s.up.get x) :
    t.waitingHead x = s.waitingHead x := by
  rw [State.waitingHead, State.waitingHead, h]

/-- The other head waits on while one is resolved. -/
theorem State.waitingHead_resolveForwarded {s : State} {x : UPort} {ticket : Option Ticket}
    (hticket : ticket.isSome = true → ∃ p, s.waitingHead x = some p) :
    (s.resolveForwarded x ticket).waitingHead x.other = s.waitingHead x.other := by
  refine State.waitingHead_of_get ?_
  rw [(State.resolveForwarded_resolves hticket).up, PerUp.get_modify_other]

theorem State.resolveForwarded_twice {s : State} {x : UPort} {ticket ticket' : Option Ticket}
    (hticket : ticket.isSome = true → ∃ p, s.waitingHead x = some p)
    (hticket' : ticket'.isSome = true → ∃ p, s.waitingHead x.other = some p) :
    s.Resolves ((s.resolveForwarded x ticket).resolveForwarded x.other ticket') (s.up.forwardedWith x ticket ticket') := by
  have h := State.resolveForwarded_resolves hticket
  have h' := State.resolveForwarded_resolves (s := s.resolveForwarded x ticket) (x := x.other)
    (State.waitingHead_resolveForwarded hticket ▸ hticket')
  refine ⟨?_, h'.down.trans h.down, h'.ott.trans h.ott, h'.lastGrant.trans h.lastGrant, h.carries.trans h'.carries⟩
  rw [h'.up, h.up, PerUp.forwardedWith]

/-- Whatever the order of the handings (log 10). -/
theorem State.resolveBoth_resolves {s : State} {x : UPort} {ticket ticket' : Option Ticket}
    (hticket : ticket.isSome = true → ∃ p, s.waitingHead x = some p)
    (hticket' : ticket'.isSome = true → ∃ p, s.waitingHead x.other = some p) :
    s.Resolves (s.resolveBoth x ticket ticket') (s.up.forwardedWith x ticket ticket') := by
  cases ticket with
  | none =>
    rw [State.resolveBoth_none_left]
    exact State.resolveForwarded_twice (ticket := none) hticket hticket'
  | some tk =>
    cases ticket' with
    | none =>
      rw [State.resolveBoth_none_right]
      exact State.resolveForwarded_twice (ticket' := none) hticket hticket'
    | some tk' =>
      obtain ⟨c, heq | heq⟩ := s.resolveBoth_some x tk tk' <;> rw [heq]
      · exact (State.resolveForwarded_twice (s := { s with choices := c }) hticket hticket').of_choices
      · have hswapped := State.resolveForwarded_twice (s := { s with choices := c }) (x := x.other) (ticket := some tk')
          (ticket' := some tk) hticket' (by rw [UPort.other_other]; exact hticket)
        rw [UPort.other_other, PerUp.forwardedWith_swap] at hswapped
        exact hswapped.of_choices

/-! ### Any allocation event (R73) -/

/-- What an allocation event does with these tickets: it forwards the heads that hold them, fills the entries that they name
for their heads, and lets items join queues of ports in service. -/
structure State.Allocates (s t : State) (tickets : UPort → Option Ticket) : Prop where
  wants     : ∀ x, (tickets x).isSome = true → ∃ r d, s.waitingHead x = some (r, d) ∧ s.wantsSlot x = some d.egress
  up        : ∀ x, t.up.get x = if (tickets x).isSome then (s.up.get x).forwarded else s.up.get x
  joins     : ∀ n, (s.down.get n).Joins (t.down.get n)
  down      : ∀ n, s.available n = false → t.down.get n = s.down.get n
  distinct  : ∀ x k, tickets x = some (.entry k) → tickets x.other ≠ some (.entry k)
  grants    : ∀ x k, tickets x = some (.entry k) → (s.entry k).state = .free ∧ s.Grants x k (t.entry k)
  entry     : ∀ k, (∀ x, tickets x ≠ some (.entry k)) → t.entry k = s.entry k
  carries   : s.Carries t

theorem State.wants_of_admits {s : State} {x : UPort} (h : s.admits x = true) :
    ∃ r d, s.waitingHead x = some (r, d) ∧ s.wantsSlot x = some d.egress := by
  obtain ⟨n, hwants⟩ := State.wantsSlot_isSome_of_admits h
  obtain ⟨r, d, hhead, rfl, -⟩ := State.wantsSlot_eq_some_iff.mp hwants
  exact ⟨r, d, hhead, hwants⟩

theorem State.available_of_wantsSlot {s : State} {x : UPort} {n : DPort} (h : s.wantsSlot x = some n) :
    s.available n = true := by
  obtain ⟨_, _, -, -, hservice, -⟩ := State.wantsSlot_eq_some_iff.mp h
  exact hservice

theorem State.ServesBoth.heads {s t : State} {x y : UPort} {ticket ticket' tk : Option Ticket}
    (h : s.ServesBoth t x ticket ticket') (hadmits : tk.isSome = true → s.admits y = true) (first : UPort) :
    tk.isSome = true → ∃ p, (t.joinBoth first x ticket ticket').waitingHead y = some p := fun hsome => by
  obtain ⟨r, d, hhead, -⟩ := State.wants_of_admits (hadmits hsome)
  rw [State.joinBoth_only]
  exact ⟨_, (State.waitingHead_congr h.up y).trans hhead⟩

/-- No item joins the queue of a port out of service (R54, R113). -/
theorem State.ServesBoth.joinBoth_down {s t : State} {x : UPort} {ticket ticket' : Option Ticket}
    (h : s.ServesBoth t x ticket ticket') (hadmits : ticket.isSome = true → s.admits x = true)
    (hadmits' : ticket'.isSome = true → s.admits x.other = true) (first : UPort) {n : DPort} (hn : s.available n = false) :
    (t.joinBoth first x ticket ticket').down.get n = s.down.get n := by
  have unserved {y : UPort} {tk : Option Ticket} (hadm : tk.isSome = true → s.admits y = true)
      (hjoins : tk.isSome = true ∧ ∃ r d, t.waitingHead y = some (r, d) ∧ d.egress = n) : False := by
    obtain ⟨hsome, r, d, hhead, rfl⟩ := hjoins
    obtain ⟨r', d', hhead', hwants⟩ := State.wants_of_admits (hadm hsome)
    rw [State.waitingHead_congr h.up, hhead'] at hhead
    cases hhead
    rw [State.available_of_wantsSlot hwants] at hn
    cases hn
  rw [← h.down]
  by_contra hchanged
  exact ((t.joinBoth_down first x ticket ticket' n).2 hchanged).elim (unserved hadmits) (unserved hadmits')

theorem State.allocate_allocates (s : State) : ∃ tickets, s.Allocates s.allocate tickets := by
  obtain ⟨x, hx⟩ : ∃ x : UPort, s.lastGrant = x.other := ⟨s.lastGrant.other, (UPort.other_other _).symm⟩
  obtain ⟨t, tk, tk', hserves, hadmits, hadmits', heq⟩ := State.allocate_serves hx
  obtain ⟨hup, hdown, hott, -, hcarries⟩ :=
    State.resolveBoth_resolves (hserves.heads hadmits s.joinsFirst) (hserves.heads hadmits' s.joinsFirst)
  rw [← heq] at hup hdown hott hcarries
  have hjoined := t.joinBoth_only s.joinsFirst x tk tk'
  rw [hjoined] at hup hott hcarries
  have hentry (k : Fin 128) : s.allocate.entry k = t.entry k := State.entry_congr hott k
  refine ⟨fun y => if y = x then tk else tk', fun y h => ?_, fun y => ?_, fun n => ?_, fun n hn => ?_, fun y k h => ?_,
    fun y k h => ?_, fun k h => ?_, hserves.carries.trans ⟨hcarries.windows, hcarries.outputs, hcarries.causes⟩⟩
  · rcases UPort.eq_or_other x y with rfl | rfl
    · exact State.wants_of_admits (hadmits (by simpa using h))
    · exact State.wants_of_admits (hadmits' (by simpa using h))
  · rw [hup, PerUp.get_forwardedWith, hserves.up]
  · rw [hdown, ← hserves.down]
    exact (t.joinBoth_down s.joinsFirst x tk tk' n).1
  · rw [hdown, hserves.joinBoth_down hadmits hadmits' _ hn]
  · rcases UPort.eq_or_other x y with rfl | rfl
    · rw [if_pos rfl] at h
      rw [if_neg (UPort.other_ne y)]
      exact hserves.distinct k h
    · rw [if_neg (UPort.other_ne x)] at h
      rw [UPort.other_other, if_pos rfl]
      exact fun h' => hserves.distinct k h' h
  · rw [hentry]
    rcases UPort.eq_or_other x y with rfl | rfl
    · exact hserves.grants k ((if_pos rfl).symm.trans h)
    · exact hserves.grants' k ((if_neg (UPort.other_ne x)).symm.trans h)
  · have h0 := h x
    have h1 := h x.other
    rw [if_pos rfl] at h0
    rw [if_neg (UPort.other_ne x)] at h1
    rw [hentry, hserves.entry k h0 h1]

end Sys2Proof.Machine
end

section
/-! PROOFS. The arbiters with two claimants (R63, R72, R74, R113): the last slot, the last entry, and the event that forwards both
heads. -/

namespace Sys2Proof.Machine

-- One after another: checked side by side, the theorems exceed the memory limit of check.sh.
set_option Elab.async false

/-! ### The last slot and the last entry (R63, R113) -/

/-- A head that is forwarded alone leaves its port, its item joins, and the other port stays. -/
theorem State.forwarded_alone {s t : State} (hup : t.up = s.up) (hdown : t.down = s.down) (x : UPort) (r : Request)
    (d : Decoded) (item : EgressItem) (forward : Option ForwardInfo) :
    ((t.onDown d.egress (Downstream.joined x item)).resolveHead x r (.window d.window d.capture) .forwarded none
          forward).up.get x = (s.up.get x).forwarded
      ∧ ((t.onDown d.egress (Downstream.joined x item)).resolveHead x r (.window d.window d.capture) .forwarded none
          forward).up.get x.other = s.up.get x.other
      ∧ ((t.onDown d.egress (Downstream.joined x item)).resolveHead x r (.window d.window d.capture) .forwarded none
          forward).down.get d.egress = (s.down.get d.egress).joined x item := by
  rw [State.resolveHead_up, State.resolveHead_down, State.onDown_up, State.onDown_down, hup, hdown, PerUp.get_modify_self,
    PerUp.get_modify_other, PerDown.get_modify_self, Upstream.resolved_forwarded]
  exact ⟨rfl, rfl, rfl⟩

theorem State.eligible_iff {s : State} {p : UPort} :
    s.eligible p = true ↔ 1 ≤ s.freeEntries ∧ (s.up.get p.other).reserve - s.used p.other ≤ s.freeEntries - 1 := by
  rw [State.eligible, Bool.and_eq_true, decide_eq_true_eq, decide_eq_true_eq]

/-- The only head that is admitted is forwarded alone. -/
theorem State.allocate_admitted {s : State} {x : UPort} {r : Request} {d : Decoded} (hother : s.admits x.other = false)
    (hadmits : s.admits x = true) (hhead : s.waitingHead x = some (r, d)) (hclaim : r.kind = .pw ∨ s.eligible x = true) :
    ∃ item, s.allocate.up.get x = (s.up.get x).forwarded ∧ s.allocate.up.get x.other = s.up.get x.other
      ∧ s.allocate.down.get d.egress = (s.down.get d.egress).joined x item := by
  by_cases hkind : r.kind = .pw
  · rw [State.allocate_posted hother hadmits hhead hkind]
    exact ⟨_, State.forwarded_alone rfl rfl x r d _ _⟩
  · have heligible := hclaim.resolve_left hkind
    obtain ⟨kind, hkind⟩ := ReqKind.answered_of_ne_pw hkind
    obtain ⟨k, hfirst⟩ := State.firstFree_isSome (State.eligible_iff.mp heligible).1
    rw [State.allocate_entry hother hadmits hhead hkind heligible hfirst]
    exact ⟨_, State.forwarded_alone (t := s.filled x r d kind k) rfl rfl x r d _ _⟩

theorem State.claim_of_wantsSlot {s : State} {x : UPort} {r : Request} {d : Decoded} {n : DPort}
    (hhead : s.waitingHead x = some (r, d)) (hwants : s.wantsSlot x = some n) : r.kind = .pw ∨ s.eligible x = true := by
  obtain ⟨_, _, hhead', -, -, -, hclaim⟩ := State.wantsSlot_eq_some_iff.mp hwants
  rw [hhead] at hhead'
  cases hhead'
  exact hclaim

/-- What filling entry k does to the numbers of entries (R72). -/
theorem State.filled_numbers {s : State} {k : Fin 128} (h : (s.entry k).state = .free) (x : UPort) (r : Request) (d : Decoded)
    (kind : AnsweredKind) :
    (s.filled x r d kind k).freeEntries = s.freeEntries - 1 ∧ (s.filled x r d kind k).used x = s.used x + 1 :=
  ⟨State.freeEntries_fill (s := { s with lastGrant := x }) (f := fun _ => s.granted x r d kind k) h nofun,
    State.used_fill (s := { s with lastGrant := x }) (f := fun _ => s.granted x r d kind k) h nofun⟩

/-- With two heads for the last entry, the one served second finds none (R63, R74). -/
theorem State.allocate_last_entry {s : State} {x : UPort} {r r' : Request} {d d' : Decoded}
    (hhead : s.waitingHead x = some (r, d)) (hhead' : s.waitingHead x.other = some (r', d')) (hadmits : s.admits x = true)
    (heligible : s.eligible x = true) (hkind : r.kind ≠ .pw) (hkind' : r'.kind ≠ .pw) (hone : s.freeEntries = 1)
    (hlast : s.lastGrant = x.other) :
    s.allocate.up.get x = (s.up.get x).forwarded ∧ s.allocate.up.get x.other = s.up.get x.other
      ∧ s.allocate.lastGrant = x ∧ s.allocate.freeEntries = 0 := by
  obtain ⟨kind, hkind⟩ := ReqKind.answered_of_ne_pw hkind
  obtain ⟨k, hfirst⟩ := State.firstFree_isSome (State.eligible_iff.mp heligible).1
  have hserve : s.serve x (s.admits x) = (s.filled x r d kind k, some (.entry k)) := by
    rw [hadmits, State.serve_entry hhead hkind heligible hfirst]
  have hnone : (s.filled x r d kind k).freeEntries = 0 := by
    rw [(State.filled_numbers (State.firstFree_eq_some_iff.mp hfirst).1 x r d kind).1, hone]
  have hineligible : (s.filled x r d kind k).eligible x.other = false := by
    rw [← Bool.not_eq_true, State.eligible_iff, hnone]
    exact fun h => absurd h.1 (by decide)
  have hsecond : ((s.serve x (s.admits x)).1.serve x.other (s.admits x.other)).2 = none := by
    rw [hserve, State.serve_ineligible (s := s.filled x r d kind k) hhead' hkind' hineligible]
  rw [State.allocate_first hlast hsecond, hserve]
  dsimp only
  rw [State.forward_with (s := s.filled x r d kind k) hhead]
  obtain ⟨hup, hother, -⟩ := State.forwarded_alone (s := s) (t := s.filled x r d kind k) rfl rfl x r d
    (itemOf r d (.entry k)) (forwardHanding x r d (.entry k)).forward
  refine ⟨hup, hother, State.resolveHead_lastGrant .., ?_⟩
  rw [State.freeEntries, State.resolveHead_ott]
  exact hnone

/-- Settles O31: a head that is not admitted, or that finds no entry, stays as it is. -/
theorem waitingHeadsAndContention : Obligations.WaitingHeadsAndContention := by
  refine ⟨fun s => State.allocate_of_no_claim, fun x r r' d d' s hhead hhead' hwants hwants' => ⟨fun hsame hlength hpointer => ?_,
    fun hkind hkind' hone hroom hlast => ?_⟩⟩
  · have hother : s.admits x.other = false := by
      rw [← Bool.not_eq_true, State.admits_iff hwants', not_not, UPort.other_other, ← hsame]
      exact ⟨hwants, hlength, hpointer⟩
    have hadmits : s.admits x = true := by
      rw [State.admits_iff hwants, hpointer]
      exact fun h => UPort.other_ne x h.2.2
    obtain ⟨item, hup, hkept, hdown⟩ :=
      State.allocate_admitted hother hadmits hhead (State.claim_of_wantsSlot hhead hwants)
    rw [hup, hkept, hdown]
    refine ⟨rfl, rfl, rfl, ?_, rfl⟩
    rw [Downstream.joined, List.length_append, hlength]
    rfl
  · have hadmits : s.admits x = true := by
      rw [State.admits_iff hwants, hwants', Option.some.injEq]
      rintro ⟨hsame, hlength, -⟩
      rcases hroom with hne | hlt
      · exact hne hsame.symm
      · omega
    obtain ⟨hup, hother, hrest⟩ := State.allocate_last_entry hhead hhead' hadmits
      ((State.claim_of_wantsSlot hhead hwants).resolve_left hkind) hkind hkind' hone hlast
    rw [hup]
    exact ⟨rfl, rfl, hother, hrest⟩

/-! ### The tickets of two heads (R74) -/

theorem State.serve_of_takes {s : State} {x : UPort} {r : Request} {d : Decoded} {ticket : Ticket}
    (hhead : s.waitingHead x = some (r, d)) (hclaim : r.kind = .pw ∨ s.eligible x = true) (h : s.Takes r none ticket) :
    (s.serve x true).2 = some ticket := by
  unfold State.Takes at h
  split at h
  · next hkind => rw [State.serve_posted hhead hkind, h]
  · next hkind =>
    obtain ⟨k, rfl, hfree, -, hlowest⟩ := h
    obtain ⟨kind, hanswered⟩ := ReqKind.answered_of_ne_pw hkind
    have hfirst : s.firstFree = some k :=
      State.firstFree_eq_some_iff.mpr ⟨hfree, fun j hj hfree => nomatch hlowest j hj hfree⟩
    rw [State.serve_entry hhead hanswered (hclaim.resolve_left hkind) hfirst]

/-- After the first service the second head takes the FREE entry of lowest index that is left. -/
theorem State.Serves.takes {s t : State} {x : UPort} {r : Request} {ticket ticket' : Ticket}
    (h : s.Serves t x (some ticket)) (htakes : s.Takes r (some ticket) ticket') : t.Takes r none ticket' := by
  unfold State.Takes at htakes ⊢
  split at htakes
  · next hkind => rwa [if_pos hkind]
  · next hkind =>
    obtain ⟨k, rfl, hfree, hne, hlowest⟩ := htakes
    rw [if_neg hkind]
    refine ⟨k, rfl, by rwa [h.entry k hne], nofun, fun j hj hfree => ?_⟩
    by_cases htaken : some ticket = some (.entry j)
    · rw [(h.grants j htaken).2.pending] at hfree
      cases hfree
    · rw [h.entry j htaken] at hfree
      exact absurd (hlowest j hj hfree) htaken

/-- What the first head takes leaves the second one eligible while an entry is left: the reserve of the first asks one less
(R72). -/
theorem State.serve_eligible {s : State} {x : UPort} {admitted : Bool} (h : s.eligible x.other = true)
    (hleft : 0 < (s.serve x admitted).1.freeEntries) : (s.serve x admitted).1.eligible x.other = true := by
  rcases s.serve_cases x admitted with hserve | ⟨r, d, -, -, ⟨-, hserve⟩ | ⟨kind, k, -, -, hfirst, hserve⟩⟩ <;>
    rw [hserve] at hleft ⊢
  · exact h
  · exact h
  · obtain ⟨hfree, hused⟩ := State.filled_numbers (State.firstFree_eq_some_iff.mp hfirst).1 x r d kind
    dsimp only at hleft ⊢
    rw [State.eligible_iff, UPort.other_other] at h ⊢
    rw [hfree] at hleft ⊢
    rw [hused]
    change 1 ≤ s.freeEntries - 1 ∧ (s.up.get x).reserve - (s.used x + 1) ≤ s.freeEntries - 1 - 1
    omega

/-- Both heads get the tickets that they take, of the port that does not hold the last-grant record first. -/
theorem State.allocate_both {s : State} {x : UPort} {r r' : Request} {d d' : Decoded} {tk tk' : Ticket}
    (hhead : s.waitingHead x = some (r, d)) (hhead' : s.waitingHead x.other = some (r', d')) (hlast : s.lastGrant = x.other)
    (hwants : s.wantsSlot x = some d.egress) (hwants' : s.wantsSlot x.other = some d'.egress)
    (hroom : d.egress = d'.egress → (s.down.get d.egress).egress.length ≤ 30) (htakes : s.Takes r none tk)
    (htakes' : s.Takes r' (some tk) tk') :
    ∃ t, s.ServesBoth t x (some tk) (some tk')
      ∧ s.allocate = (t.joinBoth s.joinsFirst x (some tk) (some tk')).resolveBoth x (some tk) (some tk') := by
  have hadmits : s.admits x = true := by
    rw [State.admits_iff hwants, hwants', Option.some.injEq]
    rintro ⟨hsame, hlength, -⟩
    have hlen := hroom hsame.symm
    omega
  have hadmits' : s.admits x.other = true := by
    rw [State.admits_iff hwants', UPort.other_other, hwants, Option.some.injEq]
    rintro ⟨hsame, hlength, -⟩
    have hlen := hroom hsame
    rw [hsame] at hlen
    omega
  have hticket : (s.serve x (s.admits x)).2 = some tk := by
    rw [hadmits]
    exact State.serve_of_takes hhead (State.claim_of_wantsSlot hhead hwants) htakes
  have hserves := s.serve_serves x (s.admits x)
  rw [hticket] at hserves
  have htakes'' := hserves.takes htakes'
  have hclaim' : r'.kind = .pw ∨ (s.serve x (s.admits x)).1.eligible x.other = true := by
    by_cases hkind : r'.kind = .pw
    · exact .inl hkind
    · have hleft := htakes''
      rw [State.Takes, if_neg hkind] at hleft
      obtain ⟨k, -, hfree, -⟩ := hleft
      exact .inr (State.serve_eligible ((State.claim_of_wantsSlot hhead' hwants').resolve_left hkind)
        (State.freeEntries_pos_iff.mpr ⟨k, hfree⟩))
  have hticket' : ((s.serve x (s.admits x)).1.serve x.other (s.admits x.other)).2 = some tk' := by
    rw [hadmits']
    exact State.serve_of_takes ((s.waitingHead_served x x.other _).trans hhead') hclaim' htakes''
  have hserves' := (s.serve x (s.admits x)).1.serve_serves x.other (s.admits x.other)
  rw [hticket'] at hserves'
  refine ⟨_, hserves.both hserves', ?_⟩
  rw [State.allocate_eq hlast]
  dsimp only
  rw [hticket, hticket']

/-! ### Where the items and the handings of two heads go (R113; log 10) -/

theorem State.joinBoth_some {s : State} {x : UPort} {r r' : Request} {d d' : Decoded} (hhead : s.waitingHead x = some (r, d))
    (hhead' : s.waitingHead x.other = some (r', d')) (first : UPort) (tk tk' : Ticket) :
    s.joinBoth first x (some tk) (some tk') =
      if first = x then
        (s.onDown d.egress (Downstream.joined x (itemOf r d tk))).onDown d'.egress
          (Downstream.joined x.other (itemOf r' d' tk'))
      else
        (s.onDown d'.egress (Downstream.joined x.other (itemOf r' d' tk'))).onDown d.egress
          (Downstream.joined x (itemOf r d tk)) := by
  unfold State.joinBoth
  rw [State.join_some hhead, State.join_some hhead', State.join_some, State.join_some]
  · rfl
  · exact hhead
  · exact hhead'

/-- In one queue the head of the port that holds the pointer joins last (R113). -/
theorem State.joinsFirst_of_same {s : State} {x : UPort} {r r' : Request} {d d' : Decoded}
    (hhead : s.waitingHead x = some (r, d)) (hhead' : s.waitingHead x.other = some (r', d')) (hsame : d.egress = d'.egress) :
    s.joinsFirst = (s.down.get d.egress).admission.other := by
  cases x with
  | u0 => simp only [State.joinsFirst, hhead, show s.waitingHead .u1 = some (r', d') from hhead', if_pos hsame]
  | u1 => simp only [State.joinsFirst, hhead, show s.waitingHead .u0 = some (r', d') from hhead', hsame, if_true]

/-- Two items that join one queue leave the pointer where it was. -/
theorem State.joinBoth_same {s t : State} {x : UPort} {r r' : Request} {d d' : Decoded} (hup : t.up = s.up)
    (hdown : t.down = s.down) (hhead : s.waitingHead x = some (r, d)) (hhead' : s.waitingHead x.other = some (r', d'))
    (hsame : d.egress = d'.egress) (tk tk' : Ticket) :
    (t.joinBoth s.joinsFirst x (some tk) (some tk')).down.get d.egress =
      { s.down.get d.egress with
        egress := (s.down.get d.egress).egress
          ++ if (s.down.get d.egress).admission = x.other then [itemOf r d tk, itemOf r' d' tk']
            else [itemOf r' d' tk', itemOf r d tk] } := by
  rw [State.joinBoth_some ((State.waitingHead_congr hup x).trans hhead) ((State.waitingHead_congr hup _).trans hhead'),
    State.joinsFirst_of_same hhead hhead' hsame, ← hsame]
  rcases UPort.eq_or_other x (s.down.get d.egress).admission with hpointer | hpointer
  · rw [hpointer, if_neg (UPort.other_ne x), if_neg (UPort.ne_other x)]
    simp only [State.onDown_down, PerDown.get_modify_self, hdown, Downstream.joined, List.append_assoc, ← hpointer]
    rfl
  · rw [hpointer, UPort.other_other, if_pos rfl, if_pos rfl]
    simp only [State.onDown_down, PerDown.get_modify_self, hdown, Downstream.joined, List.append_assoc, ← hpointer]
    rfl

/-- Two items that join two queues, and the queues that none joins. -/
theorem State.joinBoth_apart {s t : State} {x : UPort} {r r' : Request} {d d' : Decoded} (hup : t.up = s.up)
    (hdown : t.down = s.down) (hhead : s.waitingHead x = some (r, d)) (hhead' : s.waitingHead x.other = some (r', d'))
    (first : UPort) (tk tk' : Ticket) :
    (d.egress ≠ d'.egress →
      (t.joinBoth first x (some tk) (some tk')).down.get d.egress = (s.down.get d.egress).joined x (itemOf r d tk)
      ∧ (t.joinBoth first x (some tk) (some tk')).down.get d'.egress =
        (s.down.get d'.egress).joined x.other (itemOf r' d' tk'))
    ∧ ∀ n, n ≠ d.egress → n ≠ d'.egress → (t.joinBoth first x (some tk) (some tk')).down.get n = s.down.get n := by
  rw [State.joinBoth_some ((State.waitingHead_congr hup x).trans hhead) ((State.waitingHead_congr hup _).trans hhead')]
  refine ⟨fun hne => ?_, fun n hn hn' => ?_⟩
  · split <;>
      simp only [State.onDown_down, PerDown.get_modify_self, PerDown.get_modify_ne _ _ hne, PerDown.get_modify_ne _ _ hne.symm,
        hdown, and_self]
  · split <;> simp only [State.onDown_down, PerDown.get_modify_ne _ _ hn, PerDown.get_modify_ne _ _ hn', hdown]

/-- The handing of a forwarded head meets the capture unit as it stands (R149). -/
theorem State.SameCapture.resolveForwarded {s t : State} (h : s.SameCapture t) {x : UPort} {r : Request} {d : Decoded}
    (hhead : s.waitingHead x = some (r, d)) (tk : Ticket) :
    (s.resolveForwarded x (some tk)).SameCapture (t.handRequest (forwardHanding x r d tk)) := by
  refine ⟨?_, ?_⟩
  · rw [State.resolveForwarded_some hhead, State.resolveHead_capture]
    exact (h.handRequest _).capture
  · rw [State.kept_time (State.resolveForwarded_kept _ _ _), State.kept_time (State.handRequest_kept _ _), h.time]

theorem State.SameCapture.resolveForwarded_twice {s t : State} (h : s.SameCapture t) {x : UPort} {r r' : Request}
    {d d' : Decoded} (hhead : s.waitingHead x = some (r, d)) (hhead' : s.waitingHead x.other = some (r', d'))
    (tk tk' : Ticket) :
    ((s.resolveForwarded x (some tk)).resolveForwarded x.other (some tk')).capture =
      ((t.handRequest (forwardHanding x r d tk)).handRequest (forwardHanding x.other r' d' tk')).capture :=
  ((h.resolveForwarded hhead tk).resolveForwarded
    ((State.waitingHead_resolveForwarded fun _ => ⟨_, hhead⟩).trans hhead') tk').capture

/-- The handings of two heads, in the order of their grants where both take an entry, else in either order (log 10). -/
theorem State.SameCapture.resolveBoth {s t : State} (h : s.SameCapture t) {x : UPort} {r r' : Request} {d d' : Decoded}
    (hhead : s.waitingHead x = some (r, d)) (hhead' : s.waitingHead x.other = some (r', d')) (tk tk' : Ticket) :
    ((∃ k, tk = .entry k) → (∃ k, tk' = .entry k) → (s.resolveBoth x (some tk) (some tk')).capture =
      ((t.handRequest (forwardHanding x r d tk)).handRequest (forwardHanding x.other r' d' tk')).capture)
    ∧ ((s.resolveBoth x (some tk) (some tk')).capture =
        ((t.handRequest (forwardHanding x r d tk)).handRequest (forwardHanding x.other r' d' tk')).capture
      ∨ (s.resolveBoth x (some tk) (some tk')).capture =
        ((t.handRequest (forwardHanding x.other r' d' tk')).handRequest (forwardHanding x r d tk)).capture) := by
  refine ⟨?_, ?_⟩
  · rintro ⟨k, rfl⟩ ⟨j, rfl⟩
    rw [State.resolveBoth_entries]
    exact h.resolveForwarded_twice hhead hhead' _ _
  · obtain ⟨c, heq | heq⟩ := s.resolveBoth_some x tk tk' <;> rw [heq]
    · exact .inl (State.SameCapture.resolveForwarded_twice (s := { s with choices := c }) ⟨h.capture, h.time⟩ hhead hhead'
        tk tk')
    · have hswapped := State.SameCapture.resolveForwarded_twice (s := { s with choices := c }) (t := t) (x := x.other)
        ⟨h.capture, h.time⟩ hhead' (by rw [UPort.other_other]; exact hhead) tk' tk
      rw [UPort.other_other] at hswapped
      exact .inr hswapped

theorem State.Takes.entry {s : State} {r : Request} {taken : Option Ticket} {tk : Ticket} (h : s.Takes r taken tk)
    (hkind : r.kind ≠ .pw) : ∃ k, tk = .entry k := by
  rw [State.Takes, if_neg hkind] at h
  obtain ⟨k, hk, -⟩ := h
  exact ⟨k, hk⟩

/-- Settles O32: two services, two items, two resolutions. -/
theorem allocationForwardsBothHeads : Obligations.AllocationForwardsBothHeads := by
  intro x r r' d d' tk tk' s hhead hhead' hlast hwants hwants' hroom htakes htakes'
  obtain ⟨t, hserves, heq⟩ := State.allocate_both hhead hhead' hlast hwants hwants' hroom htakes htakes'
  have hjoined := t.joinBoth_only s.joinsFirst x (some tk) (some tk')
  have hsame := State.joinBoth_same hserves.up hserves.down hhead hhead' (tk := tk) (tk' := tk')
  obtain ⟨hapart, hothers⟩ := State.joinBoth_apart hserves.up hserves.down hhead hhead' s.joinsFirst tk tk'
  generalize t.joinBoth s.joinsFirst x (some tk) (some tk') = j at heq hjoined hsame hapart hothers
  have hup : j.up = s.up := by rw [hjoined]; exact hserves.up
  have hcapture : j.SameCapture s := by rw [hjoined]; exact ⟨hserves.capture, hserves.time⟩
  have hj : j.waitingHead x = some (r, d) := (State.waitingHead_congr hup x).trans hhead
  have hj' : j.waitingHead x.other = some (r', d') := (State.waitingHead_congr hup _).trans hhead'
  have hresolves := State.resolveBoth_resolves (ticket := some tk) (ticket' := some tk') (fun _ => ⟨_, hj⟩) fun _ => ⟨_, hj'⟩
  obtain ⟨hordered, heither⟩ := hcapture.resolveBoth hj hj' tk tk'
  rw [← heq] at hresolves hordered heither
  have hentry (k : Fin 128) : s.allocate.entry k = t.entry k :=
    State.entry_congr (hresolves.ott.trans (by rw [hjoined])) k
  have hcarries : s.Carries s.allocate :=
    (hserves.carries.trans (r := j) (by rw [hjoined]; exact ⟨rfl, rfl, fun _ => id⟩)).trans hresolves.carries
  refine ⟨fun y => ?_, fun h => ?_, fun h => ?_, fun n hn hn' => ?_, fun k hk => ?_, fun k hk => ?_, fun k hk hk' => ?_, ?_,
    fun hkind hkind' => hordered (htakes.entry hkind) (htakes'.entry hkind'), heither, hcarries.outputs,
    State.kept_settings s.allocate_kept, hcarries.windows⟩
  · rw [hresolves.up, hup, PerUp.get_forwardedWith]
    split <;> rfl
  · rw [hresolves.down]
    exact hsame h
  · rw [hresolves.down]
    exact hapart h
  · rw [hresolves.down]
    exact hothers n hn hn'
  · rw [hentry]
    exact (hserves.grants k (congrArg some hk)).2
  · rw [hentry]
    exact (hserves.grants' k (congrArg some hk)).2
  · rw [hentry]
    exact hserves.entry k (by simpa using hk) (by simpa using hk')
  · rw [hresolves.lastGrant, show j.lastGrant = t.lastGrant by rw [hjoined], hserves.lastGrant, hlast]
    cases tk <;> cases tk' <;> simp

end Sys2Proof.Machine
end

section
/-! PROOFS. What the end of an entry, a fence and a link-down do to the table and to every port (R62, R86 to R90, R106, R119, R130,
R132 to R134): the entries, the upstream ports and the downstream ports after each, in terms of those before. -/

namespace Sys2Proof.Machine

-- One after another: checked side by side, the theorems exceed the memory limit of check.sh.
set_option Elab.async false

theorem PerDown.modify_modify {α : Type} (p : PerDown α) (n : DPort) (f g : α → α) :
    (p.modify n f).modify n g = p.modify n fun a => g (f a) := by
  cases n <;> rfl

/-! ### Entries that end (R69, R86, R87) -/

/-- An entry released (R87). -/
def OttEntry.freed (e : OttEntry) : OttEntry := { e with state := .free, deadline := none, cap := false }

/-- An entry whose requester's answer has ended while its target still owes parts (R86, R90). -/
def OttEntry.orphaned (e : OttEntry) : OttEntry := { e with state := .orphan, deadline := none, cap := false }

/-- An entry under a fence of Dn (R88). -/
def OttEntry.fencedOff (n : DPort) (e : OttEntry) : OttEntry :=
  if e.egress ≠ n then e
  else
    match e.state with
    | .pending => e.freed
    | .issued => e.orphaned
    | .streaming => e.orphaned
    | .orphan => e
    | .free => e

/-- An entry under a link-down of Dn (R89). -/
def OttEntry.cutOff (n : DPort) (e : OttEntry) : OttEntry :=
  if e.egress ≠ n then e
  else
    match e.state with
    | .pending => e.freed
    | .issued => e.freed
    | .streaming => e.freed
    | .orphan => e.freed
    | .free => e

/-- An entry at the link-down of Ux (R90). -/
def OttEntry.departed (x : UPort) (e : OttEntry) : OttEntry :=
  if e.src ≠ x then e
  else
    match e.state with
    | .pending => e.freed
    | .issued => e.orphaned
    | .streaming => e.orphaned
    | .orphan => e
    | .free => e

theorem State.release_entry (s : State) (k j : Fin 128) :
    (s.release k).entry j = if j = k then (s.entry k).freed else s.entry j := s.entry_onEntry k j _

theorem State.orphan_entry (s : State) (k j : Fin 128) :
    (s.orphan k).entry j = if j = k then (s.entry k).orphaned else s.entry j := s.entry_onEntry k j _

/-! ### Parts that a port receives (R58, R127) -/

/-- A part comes to the return queue of a port, and is discarded as a protocol error at a full one (R58, R127). -/
def Upstream.receive (u : Upstream) (p : Part) : Upstream :=
  if Config.returnCapacity ≤ u.returnQueue.length then
    { u with counters := { u.counters with protocol := satInc u.counters.protocol } }
  else { u with returnQueue := u.returnQueue ++ [p] }

/-- Parts come one after another. -/
def Upstream.receiveAll (u : Upstream) (ps : List Part) : Upstream := ps.foldl Upstream.receive u

theorem Upstream.receiveAll_of_room {u : Upstream} {ps : List Part} (h : u.returnQueue.length + ps.length ≤ 576) :
    u.receiveAll ps = { u with returnQueue := u.returnQueue ++ ps } := by
  induction ps generalizing u with
  | nil => rw [List.append_nil]; rfl
  | cons p ps ih =>
    rw [List.length_cons] at h
    have hroom : ¬ Config.returnCapacity ≤ u.returnQueue.length := by
      rw [Config.returnCapacity]
      omega
    have hone : u.receive p = { u with returnQueue := u.returnQueue ++ [p] } := if_neg hroom
    rw [Upstream.receiveAll, List.foldl_cons, hone]
    refine (ih ?_).trans ?_
    · rw [List.length_append, List.length_singleton]
      omega
    · simp only [List.append_assoc, List.singleton_append]

/-- Parts touch the return queue and the counters alone. -/
theorem Upstream.receiveAll_only (u : Upstream) (ps : List Part) :
    u.receiveAll ps = { u with returnQueue := (u.receiveAll ps).returnQueue, counters := (u.receiveAll ps).counters } := by
  induction ps generalizing u with
  | nil => rfl
  | cons p ps ih =>
    have hone : u.receive p = { u with returnQueue := (u.receive p).returnQueue, counters := (u.receive p).counters } := by
      unfold Upstream.receive
      split <;> rfl
    have hcons : u.receiveAll (p :: ps) = (u.receive p).receiveAll ps := rfl
    rw [hcons, ih]
    rw [hone]

@[simp] theorem Upstream.receiveAll_head (u : Upstream) (ps : List Part) : (u.receiveAll ps).head = u.head := by
  rw [Upstream.receiveAll_only]
  rfl

@[simp] theorem State.placePart_up (s : State) (x : UPort) (p : Part) :
    (s.placePart x p).up = s.up.modify x (Upstream.receive · p) := by
  refine PerUp.ext_get fun y => ?_
  rw [PerUp.get_modify]
  split
  · next hy =>
    subst hy
    unfold State.placePart Upstream.receive
    split <;> exact PerUp.get_modify_self _ _ _
  · next hy => exact s.placePart_up_ne x p hy

theorem State.placeParts_up (s : State) (x : UPort) (ps : List Part) :
    (s.placeParts x ps).up = s.up.modify x (Upstream.receiveAll · ps) := by
  induction ps generalizing s with
  | nil => exact (PerUp.modify_id _ rfl).symm
  | cons p ps ih =>
    have hcons : s.placeParts x (p :: ps) = (s.placePart x p).placeParts x ps := rfl
    rw [hcons, ih, State.placePart_up, PerUp.modify_modify]
    rfl

theorem State.answer_up (s : State) (x : UPort) (r : Request) (status : Status) :
    (s.answer x r status).up = s.up.modify x (Upstream.receiveAll · (finalParts r status)) := by
  rw [State.answer_eq_placeParts, State.placeParts_up]

/-! ### Retirement (R86) -/

section
variable (s : State) (k : Fin 128) (status : Status)

@[simp] theorem State.handCompletion_up : (s.handCompletion k status).up = s.up := s.hand_up _ _ _
@[simp] theorem State.handCompletion_down : (s.handCompletion k status).down = s.down := s.hand_down _ _ _

theorem State.handCompletion_entry (j : Fin 128) : (s.handCompletion k status).entry j = s.entry j :=
  State.entry_congr (s.hand_ott _ _ _) j

@[simp] theorem State.complete_up : (s.complete k status).up = s.up := by unfold State.complete; split <;> simp
@[simp] theorem State.complete_down : (s.complete k status).down = s.down := by unfold State.complete; split <;> simp

theorem State.complete_entry (j : Fin 128) :
    (s.complete k status).entry j = if j = k then { s.entry k with cap := false } else s.entry j := by
  unfold State.complete
  split
  · simp only [State.entry_onEntry, State.handCompletion_entry]
  · next hcap =>
    split
    · next hj =>
      rw [hj]
      exact congrArg (fun c => { s.entry k with cap := c }) (Bool.eq_false_iff.mpr hcap)
    · rfl

theorem State.complete_carries : s.Carries (s.complete k status) := by
  unfold State.complete
  split
  · exact ((s.hand_records _ _ _).carries).onEntry k _
  · exact .refl s

@[simp] theorem State.retire_down : (s.retire k status).down = s.down := by simp [State.retire]

theorem State.retire_up : (s.retire k status).up =
    s.up.modify (s.entry k).src (Upstream.receive · (Part.final (s.entry k).srcTag status)) := by
  rw [State.retire, State.complete_up, State.placePart_up]

theorem State.retire_entry (j : Fin 128) :
    (s.retire k status).entry j = if j = k then { s.entry k with cap := false } else s.entry j := by
  rw [State.retire, State.complete_entry, State.placePart_entry, State.placePart_entry]

theorem State.retire_carries : s.Carries (s.retire k status) :=
  (s.placePart_carries _ _).trans (State.complete_carries _ _ _)

theorem State.retire_release_entry (j : Fin 128) :
    ((s.retire k status).release k).entry j = if j = k then (s.entry k).freed else s.entry j := by
  rw [State.release_entry, State.retire_entry, State.retire_entry, if_pos rfl]
  split <;> rfl

theorem State.retire_orphan_entry (j : Fin 128) :
    ((s.retire k status).orphan k).entry j = if j = k then (s.entry k).orphaned else s.entry j := by
  rw [State.orphan_entry, State.retire_entry, State.retire_entry, if_pos rfl]
  split <;> rfl

end

/-! ### The entries of a port that is fenced or goes DOWN (R88, R89) -/

/-- Entry k of Dn owes requester y an answer. -/
def State.owes (s : State) (n : DPort) (y : UPort) (k : Fin 128) : Bool :=
  (s.entry k).state.live && (s.entry k).egress == n && (s.entry k).src == y

/-- The UNAVAILABLE part that ends the answer of entry k (R88, R89). -/
def State.lastPart (s : State) (k : Fin 128) : Part := Part.final (s.entry k).srcTag .unavailable

/-- The step of a fence or of a link-down: entry k becomes `end_` of itself, and a live entry of Dn ends its answer. -/
structure EndsEntries (n : DPort) (step : State → Fin 128 → State) (end_ : OttEntry → OttEntry) : Prop where
  entry   : ∀ (s : State) k j, (step s k).entry j = if j = k then end_ (s.entry k) else s.entry j
  up      : ∀ (s : State) k y, (step s k).up.get y =
    if s.owes n y k then (s.up.get y).receive (s.lastPart k) else s.up.get y
  down    : ∀ (s : State) k, (step s k).down = s.down
  carries : ∀ (s : State) k, s.Carries (step s k)

theorem State.up_of_retired {s t : State} {n : DPort} {k : Fin 128} (hlive : (s.entry k).state.live = true)
    (hn : (s.entry k).egress = n) (h : t.up = (s.retire k .unavailable).up) (y : UPort) :
    t.up.get y = if s.owes n y k then (s.up.get y).receive (s.lastPart k) else s.up.get y := by
  rw [h, State.retire_up, PerUp.get_modify, State.owes, hlive, hn, beq_self_eq_true, Bool.and_self, Bool.true_and]
  by_cases hy : y = (s.entry k).src
  · rw [if_pos hy, hy, beq_self_eq_true, if_pos rfl]
    rfl
  · rw [if_neg hy, beq_eq_false_iff_ne.mpr (Ne.symm hy), if_neg Bool.false_ne_true]

theorem State.up_of_not_owed {s : State} {n : DPort} {k : Fin 128}
    (h : (s.entry k).egress ≠ n ∨ (s.entry k).state.live = false) (y : UPort) {p : Part} :
    s.up.get y = if s.owes n y k then (s.up.get y).receive p else s.up.get y := by
  have hno : s.owes n y k = false := by
    rw [State.owes]
    rcases h with h | h
    · rw [beq_eq_false_iff_ne.mpr h, Bool.and_false, Bool.false_and]
    · rw [h, Bool.false_and, Bool.false_and]
  rw [hno, if_neg Bool.false_ne_true]

theorem entry_of_unchanged {s : State} {k : Fin 128} {g : OttEntry → OttEntry} (h : g (s.entry k) = s.entry k) (j : Fin 128) :
    s.entry j = if j = k then g (s.entry k) else s.entry j := by
  split
  · next hj => rw [h, hj]
  · rfl

/-- What one step may do: nothing to an entry of another port or one that owes no answer, the release of an entry that owes
none, or the retirement of a live entry of Dn, which is then released or becomes ORPHAN. -/
inductive EndsEntry (n : DPort) (s t : State) (k : Fin 128) (e : OttEntry) : Prop where
  | kept (hidle : (s.entry k).egress ≠ n ∨ (s.entry k).state.live = false) (ht : t = s) (he : e = s.entry k)
  | released (hidle : (s.entry k).state.live = false) (ht : t = s.release k) (he : e = (s.entry k).freed)
  | freed (hlive : (s.entry k).state.live = true) (hn : (s.entry k).egress = n)
      (ht : t = (s.retire k .unavailable).release k) (he : e = (s.entry k).freed)
  | orphaned (hlive : (s.entry k).state.live = true) (hn : (s.entry k).egress = n)
      (ht : t = (s.retire k .unavailable).orphan k) (he : e = (s.entry k).orphaned)

theorem EndsEntries.of_steps {n : DPort} {step : State → Fin 128 → State} {end_ : OttEntry → OttEntry}
    (h : ∀ s k, EndsEntry n s (step s k) k (end_ (s.entry k))) : EndsEntries n step end_ := by
  refine ⟨fun s k j => ?_, fun s k y => ?_, fun s k => ?_, fun s k => ?_⟩ <;>
    rcases h s k with ⟨hidle, ht, he⟩ | ⟨hidle, ht, he⟩ | ⟨hlive, hn, ht, he⟩ | ⟨hlive, hn, ht, he⟩ <;> rw [ht]
  · exact entry_of_unchanged he j
  · rw [he, State.release_entry]
  · rw [he, State.retire_release_entry]
  · rw [he, State.retire_orphan_entry]
  · exact State.up_of_not_owed hidle y
  · exact State.up_of_not_owed (.inr hidle) y
  · exact State.up_of_retired hlive hn rfl y
  · exact State.up_of_retired hlive hn rfl y
  · rfl
  · exact s.retire_down k _
  · exact s.retire_down k _
  · exact .refl s
  · exact (State.Carries.refl s).onEntry k _
  · exact (s.retire_carries k _).onEntry k _
  · exact (s.retire_carries k _).onEntry k _

theorem fenceEntry_ends (n : DPort) : EndsEntries n (State.fenceEntry n) (OttEntry.fencedOff n) := by
  refine .of_steps fun s k => ?_
  unfold State.fenceEntry OttEntry.fencedOff
  split
  · next hn => exact .kept (.inl hn) rfl rfl
  · next hn =>
    have hn := not_not.mp hn
    cases hstate : (s.entry k).state with
    | pending => exact .freed (by rw [hstate]; rfl) hn rfl rfl
    | issued => exact .orphaned (by rw [hstate]; rfl) hn rfl rfl
    | streaming => exact .orphaned (by rw [hstate]; rfl) hn rfl rfl
    | orphan => exact .kept (.inr (by rw [hstate]; rfl)) rfl rfl
    | free => exact .kept (.inr (by rw [hstate]; rfl)) rfl rfl

theorem unlinkEntry_ends (n : DPort) : EndsEntries n (State.unlinkEntry n) (OttEntry.cutOff n) := by
  refine .of_steps fun s k => ?_
  unfold State.unlinkEntry OttEntry.cutOff
  split
  · next hn => exact .kept (.inl hn) rfl rfl
  · next hn =>
    have hn := not_not.mp hn
    cases hstate : (s.entry k).state with
    | pending => exact .freed (by rw [hstate]; rfl) hn rfl rfl
    | issued => exact .freed (by rw [hstate]; rfl) hn rfl rfl
    | streaming => exact .freed (by rw [hstate]; rfl) hn rfl rfl
    | orphan => exact .released (by rw [hstate]; rfl) rfl rfl
    | free => exact .kept (.inr (by rw [hstate]; rfl)) rfl rfl

/-! ### Every entry in ascending index -/

/-- A fold whose steps each change one entry, on indices without repetition. -/
theorem foldl_entry {step : State → Fin 128 → State} {g : OttEntry → OttEntry}
    (h : ∀ (s : State) k j, (step s k).entry j = if j = k then g (s.entry k) else s.entry j) {l : List (Fin 128)}
    (hl : l.Nodup) (s : State) (j : Fin 128) :
    (l.foldl step s).entry j = if j ∈ l then g (s.entry j) else s.entry j := by
  induction l generalizing s with
  | nil => rw [List.foldl_nil, if_neg List.not_mem_nil]
  | cons k l ih =>
    obtain ⟨hk, hl⟩ := List.nodup_cons.mp hl
    rw [List.foldl_cons, ih hl, h]
    by_cases hj : j = k
    · subst hj
      rw [if_neg hk, if_pos rfl, if_pos List.mem_cons_self]
    · simp only [List.mem_cons, hj, false_or, if_false]

theorem foldl_ottIndices_entry {step : State → Fin 128 → State} {g : OttEntry → OttEntry}
    (h : ∀ (s : State) k j, (step s k).entry j = if j = k then g (s.entry k) else s.entry j) (s : State) (j : Fin 128) :
    (ottIndices.foldl step s).entry j = g (s.entry j) := by
  have hj : j ∈ ottIndices := List.mem_finRange j
  rw [foldl_entry h (l := ottIndices) (List.nodup_finRange 128), if_pos hj]

/-- The parts that the entries of Dn place for requester y, in ascending index (R88, R89). -/
def State.lastParts (s : State) (n : DPort) (y : UPort) (l : List (Fin 128)) : List Part :=
  (l.filter (s.owes n y)).map s.lastPart

theorem State.lastParts_congr {s t : State} {n : DPort} {y : UPort} {l : List (Fin 128)}
    (h : ∀ k ∈ l, t.entry k = s.entry k) : t.lastParts n y l = s.lastParts n y l := by
  have howes : l.filter (t.owes n y) = l.filter (s.owes n y) :=
    List.filter_congr fun k hk => by rw [State.owes, State.owes, h k hk]
  rw [State.lastParts, State.lastParts, howes]
  refine List.map_congr_left fun k hk => ?_
  rw [State.lastPart, State.lastPart, h k (List.mem_of_mem_filter hk)]

/-- The answers that a fold over the entries of Dn ends, as requester y receives them. -/
theorem EndsEntries.foldl_up {n : DPort} {step : State → Fin 128 → State} {end_ : OttEntry → OttEntry}
    (h : EndsEntries n step end_) {l : List (Fin 128)} (hl : l.Nodup) (s : State) (y : UPort) :
    (l.foldl step s).up.get y = (s.up.get y).receiveAll (s.lastParts n y l) := by
  induction l generalizing s with
  | nil => rfl
  | cons k l ih =>
    obtain ⟨hk, hl⟩ := List.nodup_cons.mp hl
    have hkept : (step s k).lastParts n y l = s.lastParts n y l := State.lastParts_congr fun j hj => by
      rw [h.entry, if_neg (ne_of_mem_of_not_mem hj hk)]
    rw [List.foldl_cons, ih hl, hkept, h.up, State.lastParts, State.lastParts, List.filter_cons]
    split <;> rfl

section
variable {n : DPort} {step : State → Fin 128 → State} {end_ : OttEntry → OttEntry} (h : EndsEntries n step end_) (s : State)
include h

theorem EndsEntries.all_up (y : UPort) :
    (ottIndices.foldl step s).up.get y = (s.up.get y).receiveAll (s.lastParts n y ottIndices) :=
  h.foldl_up (List.nodup_finRange 128) s y

theorem EndsEntries.all_entry (j : Fin 128) : (ottIndices.foldl step s).entry j = end_ (s.entry j) :=
  foldl_ottIndices_entry h.entry s j

theorem EndsEntries.all_down : (ottIndices.foldl step s).down = s.down := foldl_keeps State.down step h.down ottIndices s

theorem EndsEntries.all_carries : s.Carries (ottIndices.foldl step s) :=
  (State.Carries.refl s).foldl (fun r k hr => hr.trans (h.carries r k)) ottIndices

end

/-! ### Heads that wait for a port (R62) -/

/-- A port whose head, if it waits for Dn, is answered UNAVAILABLE and resolved so (R48, R58, R62). -/
def Upstream.failed (n : DPort) (u : Upstream) : Upstream :=
  match u.ingress, u.waiting with
  | r :: _, some d => if d.egress = n then (u.receiveAll (finalParts r .unavailable)).resolved .unavailable r.kind else u
  | _, _ => u

theorem Upstream.failed_of_waiting {s : State} {y : UPort} {r : Request} {d : Decoded} (h : s.waitingHead y = some (r, d))
    {u : Upstream} (hu : u.head = (s.up.get y).head) (n : DPort) :
    u.failed n = if d.egress = n then (u.receiveAll (finalParts r .unavailable)).resolved .unavailable r.kind else u := by
  have hingress : u.ingress = (s.up.get y).ingress := congrArg Head.ingress hu
  have hwaiting : u.waiting = (s.up.get y).waiting := congrArg Head.waiting hu
  unfold State.waitingHead at h
  rw [← hingress, ← hwaiting] at h
  split at h
  · next hi hw =>
    cases h
    simp only [Upstream.failed, hi, hw]
  · cases h

theorem Upstream.failed_of_none {s : State} {y : UPort} (h : s.waitingHead y = none) {u : Upstream}
    (hu : u.head = (s.up.get y).head) (n : DPort) : u.failed n = u := by
  have hingress : u.ingress = (s.up.get y).ingress := congrArg Head.ingress hu
  have hwaiting : u.waiting = (s.up.get y).waiting := congrArg Head.waiting hu
  unfold Upstream.failed
  split
  · next hi hw =>
    rw [State.waitingHead, ← hingress, ← hwaiting, hi, hw] at h
    cases h
  · rfl

/-- What the failure of a waiting head leaves alone. -/
theorem State.failWaiting_spec (s : State) (x : UPort) (n : DPort) :
    (s.failWaiting x n).up = s.up.modify x (Upstream.failed n) ∧ (s.failWaiting x n).down = s.down
      ∧ (s.failWaiting x n).ott = s.ott ∧ s.Carries (s.failWaiting x n) := by
  unfold State.failWaiting
  split
  · next r d hhead =>
    have hfailed := Upstream.failed_of_waiting hhead rfl n
    split
    · next hn =>
      rw [if_pos hn] at hfailed
      refine ⟨PerUp.ext_get fun y => ?_, s.refuseHead_down .., s.refuseHead_ott .., s.refuseHead_carries ..⟩
      rw [State.refuseHead, State.resolveHead_up, State.answer_up, PerUp.modify_modify, PerUp.get_modify, PerUp.get_modify]
      split
      · next hy =>
        rw [hy]
        exact hfailed.symm
      · rfl
    · next hn =>
      rw [if_neg hn] at hfailed
      exact ⟨(PerUp.modify_id _ hfailed).symm, rfl, rfl, .refl s⟩
  · next hhead => exact ⟨(PerUp.modify_id _ (Upstream.failed_of_none hhead rfl n)).symm, rfl, rfl, .refl s⟩

theorem State.failWaitingHeads_spec (s : State) (n : DPort) :
    (∀ y, (s.failWaitingHeads n).up.get y = (s.up.get y).failed n) ∧ (s.failWaitingHeads n).down = s.down
      ∧ (s.failWaitingHeads n).ott = s.ott ∧ s.Carries (s.failWaitingHeads n) := by
  have both (t : State) (x : UPort) :
      (∀ y, ((t.failWaiting x n).failWaiting x.other n).up.get y = (t.up.get y).failed n)
        ∧ ((t.failWaiting x n).failWaiting x.other n).down = t.down
        ∧ ((t.failWaiting x n).failWaiting x.other n).ott = t.ott
        ∧ t.Carries ((t.failWaiting x n).failWaiting x.other n) := by
    obtain ⟨hup, hdown, hott, hcarries⟩ := t.failWaiting_spec x n
    obtain ⟨hup', hdown', hott', hcarries'⟩ := (t.failWaiting x n).failWaiting_spec x.other n
    refine ⟨fun y => ?_, hdown'.trans hdown, hott'.trans hott, hcarries.trans hcarries'⟩
    rw [hup', hup]
    rcases UPort.eq_or_other x y with rfl | rfl
    · rw [PerUp.get_modify_ne _ _ (UPort.ne_other y), PerUp.get_modify_self]
    · rw [PerUp.get_modify_self, PerUp.get_modify_other]
  unfold State.failWaitingHeads
  split
  · obtain ⟨hup, hdown, hott, hcarries⟩ := both { s with choices := s.choices + 1 } (freeFirst s.choices)
    exact ⟨hup, hdown, hott, ⟨hcarries.windows, hcarries.outputs, hcarries.causes⟩⟩
  · exact both s .u0

/-! ### The fence and the link-down (R62, R88, R89, R119, R130, R132 to R134) -/

/-- An upstream port after Dn has been fenced or gone DOWN: the answers of its entries there, then that of a head that waits
for it (R62, R88, R89). -/
def State.bereft (s : State) (n : DPort) (y : UPort) : Upstream :=
  ((s.up.get y).receiveAll (s.lastParts n y ottIndices)).failed n

/-- Dn with its queue flushed (R119). -/
def Downstream.flushed (d : Downstream) : Downstream :=
  { d with
    egress := []
    counters := { d.counters with pwDropped := satAdd d.counters.pwDropped (postedCount d.egress) } }

/-- Dn with its flag set (R132, R134). -/
def Downstream.fencedFor (reason : FenceReason) (d : Downstream) : Downstream :=
  { d with
    fenced := true
    reason := reason
    retrained := d.link == .down
    counters := { d.counters with fences := satInc d.counters.fences } }

/-- Dn with its link DOWN (R130). -/
def Downstream.unlinked (d : Downstream) : Downstream :=
  { d with
    link := .down
    badRun := 0
    goodRun := 0
    degraded := false
    retrained := d.fenced || d.retrained
    credits := 0
    counters := { d.counters with linkDowns := satInc d.counters.linkDowns } }

/-- What remains of the bridge where Dn becomes `port` and its entries and waiting heads end. -/
structure State.Bereaves (s t : State) (n : DPort) (port : Downstream → Downstream) (end_ : OttEntry → OttEntry) : Prop where
  up      : ∀ y, t.up.get y = s.bereft n y
  down    : t.down = s.down.modify n port
  entry   : ∀ k, t.entry k = end_ (s.entry k)
  carries : s.Carries t

theorem EndsEntries.bereaves {n : DPort} {step : State → Fin 128 → State} {end_ : OttEntry → OttEntry}
    (h : EndsEntries n step end_) {s r : State} {port : Downstream → Downstream} (hup : r.up = s.up) (hott : r.ott = s.ott)
    (hdown : r.down = s.down.modify n port) (hcarries : s.Carries r) :
    s.Bereaves (((ottIndices.foldl step r).flush n).failWaitingHeads n) n (fun d => (port d).flushed) end_ := by
  obtain ⟨hfup, hfdown, hfott, hfcarries⟩ := ((ottIndices.foldl step r).flush n).failWaitingHeads_spec n
  have hentry (k : Fin 128) : r.entry k = s.entry k := State.entry_congr hott k
  refine ⟨fun y => ?_, ?_, fun k => ?_, ?_⟩
  · rw [hfup, State.flush, State.onDown_up, h.all_up, hup, State.lastParts_congr fun k _ => hentry k]
    rfl
  · rw [hfdown, State.flush, State.onDown_down, h.all_down, hdown, PerDown.modify_modify]
    rfl
  · rw [State.entry_congr hfott]
    exact (h.all_entry r k).trans (congrArg end_ (hentry k))
  · exact ((hcarries.trans (h.all_carries r)).onDown n _).trans hfcarries

theorem State.fence_of_fenced {s : State} {n : DPort} (h : (s.down.get n).fenced = true) (reason : FenceReason) :
    s.fence n reason = s := if_pos h

theorem State.fence_bereaves {s : State} {n : DPort} (h : (s.down.get n).fenced = false) (reason : FenceReason) :
    s.Bereaves (s.fence n reason) n (fun d => (d.fencedFor reason).flushed) (OttEntry.fencedOff n) := by
  unfold State.fence
  rw [h, if_neg Bool.false_ne_true]
  exact (fenceEntry_ends n).bereaves (port := Downstream.fencedFor reason) rfl rfl rfl
    (((State.Carries.refl s).onDown n _).raise _)

theorem State.linkDown_bereaves (s : State) (n : DPort) :
    s.Bereaves (s.linkDown n) n (fun d => d.unlinked.flushed) (OttEntry.cutOff n) := by
  have hdown := ((State.Carries.refl s).onDown n Downstream.unlinked).raise (.linkChange n)
  unfold State.linkDown
  dsimp only
  split
  · exact (unlinkEntry_ends n).bereaves (port := Downstream.unlinked) rfl rfl rfl (hdown.raise _)
  · exact (unlinkEntry_ends n).bereaves (port := Downstream.unlinked) rfl rfl rfl hdown

end Sys2Proof.Machine
end

section
/-! PROOFS. The link-down of an upstream port (R66, R90, R106): its entries, the orphan limit tests of D0 to D3 one after another,
and the allocation event. -/

namespace Sys2Proof.Machine

-- One after another: checked side by side, the theorems exceed the memory limit of check.sh.
set_option Elab.async false

/-! ### The orphan limit tests (R106) -/

theorem State.orphanCount_le {s t : State} {n : DPort}
    (h : ∀ k, (t.entry k).state = .orphan → (t.entry k).egress = n → (s.entry k).state = .orphan ∧ (s.entry k).egress = n) :
    t.orphanCount n ≤ s.orphanCount n := by
  rw [State.orphanCount, State.orphanCount, State.ott_toList, State.ott_toList, List.countP_map, List.countP_map]
  refine List.countP_mono_left fun k _ hk => ?_
  simp only [Function.comp_apply, Bool.and_eq_true, beq_iff_eq] at hk ⊢
  exact h k hk.1 hk.2

theorem State.orphanCount_congr {s t : State} {n : DPort}
    (h : ∀ k, (t.entry k).state = .orphan ∧ (t.entry k).egress = n ↔ (s.entry k).state = .orphan ∧ (s.entry k).egress = n) :
    t.orphanCount n = s.orphanCount n :=
  le_antisymm (State.orphanCount_le fun k ho hn => (h k).mp ⟨ho, hn⟩) (State.orphanCount_le fun k ho hn => (h k).mpr ⟨ho, hn⟩)

/-- The test of Dn fences it: the flag is clear, and the orphans have reached the limit (R106). -/
def State.overflows (s : State) (n : DPort) : Bool :=
  !(s.down.get n).fenced && decide ((s.down.get n).orphanLimit ≤ s.orphanCount n)

theorem State.overflows_iff {s : State} {n : DPort} :
    s.overflows n = true ↔ (s.down.get n).fenced = false ∧ (s.down.get n).orphanLimit ≤ s.orphanCount n := by
  rw [State.overflows, Bool.and_eq_true, Bool.not_eq_true', decide_eq_true_eq]

theorem State.orphanTest_of_overflows {s : State} {n : DPort} (h : s.overflows n = true) :
    s.orphanTest n = s.fence n .orphans := if_pos (State.overflows_iff.mp h).2

theorem State.orphanTest_of_not_overflows {s : State} {n : DPort} (h : s.overflows n = false) : s.orphanTest n = s := by
  unfold State.orphanTest
  split
  · next hlimit =>
    refine State.fence_of_fenced ?_ _
    by_contra hclear
    rw [State.overflows_iff.mpr ⟨Bool.eq_false_iff.mpr hclear, hlimit⟩] at h
    cases h
  · rfl

theorem OttEntry.fencedOff_egress (n : DPort) (e : OttEntry) : (e.fencedOff n).egress = e.egress := by
  unfold OttEntry.fencedOff
  split
  · rfl
  · split <;> rfl

theorem OttEntry.fencedOff_of_ne {n : DPort} {e : OttEntry} (h : e.egress ≠ n) : e.fencedOff n = e := if_pos h

theorem OttEntry.fencedOff_orphan {n : DPort} {e : OttEntry} (h : e.state = .orphan) : e.fencedOff n = e := by
  unfold OttEntry.fencedOff
  rw [h, ite_self]

theorem OttEntry.fencedOff_not_live {n : DPort} {e : OttEntry} (h : e.state.live = false) : e.fencedOff n = e := by
  unfold OttEntry.fencedOff
  rcases EntryState.live_eq_false_iff.mp h with h | h <;> rw [h, ite_self]

/-- The test of one port leaves the others as they are. -/
theorem State.orphanTest_others (s : State) {n m : DPort} (h : m ≠ n) :
    (s.orphanTest n).down.get m = s.down.get m ∧ (s.orphanTest n).orphanCount m = s.orphanCount m
      ∧ (s.orphanTest n).overflows m = s.overflows m := by
  have hboth : (s.orphanTest n).down.get m = s.down.get m ∧ (s.orphanTest n).orphanCount m = s.orphanCount m := by
    cases hover : s.overflows n with
    | false =>
      rw [State.orphanTest_of_not_overflows hover]
      exact ⟨rfl, rfl⟩
    | true =>
      rw [State.orphanTest_of_overflows hover]
      have hfence := State.fence_bereaves (State.overflows_iff.mp hover).1 .orphans
      refine ⟨by rw [hfence.down, PerDown.get_modify_ne _ _ h], State.orphanCount_congr fun k => ?_⟩
      rw [hfence.entry, OttEntry.fencedOff_egress]
      by_cases hk : (s.entry k).egress = m
      · rw [OttEntry.fencedOff_of_ne (hk ▸ h)]
      · exact ⟨fun hko => absurd hko.2 hk, fun hko => absurd hko.2 hk⟩
  exact ⟨hboth.1, hboth.2, by rw [State.overflows, State.overflows, hboth.1, hboth.2]⟩

/-- Entry e after the orphan limit tests, of which those of the ports that overflow take a fence. -/
def State.tested (s : State) (l : List DPort) (e : OttEntry) : OttEntry :=
  if e.egress ∈ l ∧ s.overflows e.egress = true then e.fencedOff e.egress else e

/-- No entry of requester y is live, and no head of Uy waits. -/
def State.Idle (s : State) (y : UPort) : Prop :=
  (∀ k, (s.entry k).src = y → (s.entry k).state.live = false) ∧ s.waitingHead y = none

theorem State.bereft_of_idle {s : State} {y : UPort} (h : s.Idle y) (n : DPort) : s.bereft n y = s.up.get y := by
  obtain ⟨hentries, hhead⟩ := h
  have hnone : s.lastParts n y ottIndices = [] := by
    rw [State.lastParts, List.map_eq_nil_iff, List.filter_eq_nil_iff]
    intro k _ howes
    simp only [State.owes, Bool.and_eq_true, beq_iff_eq] at howes
    rw [hentries k howes.2] at howes
    cases howes.1.1
  rw [State.bereft, hnone]
  exact Upstream.failed_of_none hhead rfl n

theorem State.waitsFor_iff {s : State} {y : UPort} {n : DPort} :
    s.waitsFor y n = true ↔ ∃ r d, s.waitingHead y = some (r, d) ∧ d.egress = n := by
  unfold State.waitsFor
  split
  · next r d hhead =>
    rw [hhead, beq_iff_eq]
    exact ⟨fun h => ⟨r, d, rfl, h⟩, fun ⟨_, _, heq, h⟩ => by cases heq; exact h⟩
  · next hhead =>
    rw [hhead]
    exact ⟨nofun, nofun⟩

/-- The head of Uy, once Dn has been fenced or gone DOWN (R62). -/
theorem State.bereft_head (s : State) (n : DPort) (y : UPort) :
    (s.bereft n y).head =
      if s.waitsFor y n then
        { link := (s.up.get y).link, ingress := (s.up.get y).ingress.tail, waiting := none }
      else (s.up.get y).head := by
  have hparts : ((s.up.get y).receiveAll (s.lastParts n y ottIndices)).head = (s.up.get y).head :=
    Upstream.receiveAll_head _ _
  rw [State.bereft]
  cases hhead : s.waitingHead y with
  | none => simp only [Upstream.failed_of_none hhead hparts, hparts, State.waitsFor, hhead, Bool.false_eq_true, if_false]
  | some p =>
    obtain ⟨r, d⟩ := p
    rw [Upstream.failed_of_waiting hhead hparts]
    simp only [State.waitsFor, hhead, beq_iff_eq]
    split
    · rw [Upstream.resolved, Upstream.receiveAll_only, Upstream.receiveAll_only (s.up.get y)]
      rfl
    · exact hparts

theorem State.Bereaves.waitingHead {s t : State} {n : DPort} {port : Downstream → Downstream}
    {end_ : OttEntry → OttEntry} (h : s.Bereaves t n port end_) (y : UPort) :
    t.waitingHead y = if s.waitsFor y n then none else s.waitingHead y := by
  have hhead := s.bereft_head n y
  rw [← h.up] at hhead
  split at hhead
  · next hwaits =>
    have hnone : (t.up.get y).waiting = none := congrArg Head.waiting hhead
    simp [State.waitingHead, hnone, hwaits]
  · next hwaits => rw [State.waitingHead_of_head hhead, if_neg hwaits]

theorem State.orphanTest_waitingHead {s : State} {n : DPort} {y : UPort} {p : Request × Decoded}
    (h : (s.orphanTest n).waitingHead y = some p) : s.waitingHead y = some p := by
  cases hover : s.overflows n with
  | false => rwa [State.orphanTest_of_not_overflows hover] at h
  | true =>
    rw [State.orphanTest_of_overflows hover,
      (State.fence_bereaves (State.overflows_iff.mp hover).1 .orphans).waitingHead] at h
    split at h
    · cases h
    · exact h

theorem State.orphanTest_entry (s : State) (n : DPort) (k : Fin 128) :
    (s.orphanTest n).entry k = if s.overflows n then (s.entry k).fencedOff n else s.entry k := by
  cases hover : s.overflows n with
  | false => rw [State.orphanTest_of_not_overflows hover, if_neg Bool.false_ne_true]
  | true =>
    rw [State.orphanTest_of_overflows hover, (State.fence_bereaves (State.overflows_iff.mp hover).1 .orphans).entry,
      if_pos rfl]

theorem State.orphanTest_down (s : State) (n : DPort) :
    (s.orphanTest n).down.get n =
      if s.overflows n then ((s.down.get n).fencedFor .orphans).flushed else s.down.get n := by
  cases hover : s.overflows n with
  | false => rw [State.orphanTest_of_not_overflows hover, if_neg Bool.false_ne_true]
  | true =>
    rw [State.orphanTest_of_overflows hover, (State.fence_bereaves (State.overflows_iff.mp hover).1 .orphans).down,
      PerDown.get_modify_self, if_pos rfl]

theorem State.orphanTest_carries (s : State) (n : DPort) : s.Carries (s.orphanTest n) := by
  cases hover : s.overflows n with
  | false =>
    rw [State.orphanTest_of_not_overflows hover]
    exact .refl s
  | true =>
    rw [State.orphanTest_of_overflows hover]
    exact (State.fence_bereaves (State.overflows_iff.mp hover).1 .orphans).carries

theorem State.orphanTest_up_of_idle {s : State} {y : UPort} (h : s.Idle y) (n : DPort) :
    (s.orphanTest n).up.get y = s.up.get y := by
  cases hover : s.overflows n with
  | false => rw [State.orphanTest_of_not_overflows hover]
  | true =>
    rw [State.orphanTest_of_overflows hover, (State.fence_bereaves (State.overflows_iff.mp hover).1 .orphans).up,
      State.bereft_of_idle h]

theorem OttEntry.fencedOff_live {n : DPort} {e : OttEntry} (h : (e.fencedOff n).state.live = true) : e.fencedOff n = e := by
  by_cases hlive : e.state.live = true
  · unfold OttEntry.fencedOff at h ⊢
    split
    · rfl
    · next hn =>
      rw [if_neg hn] at h
      rcases EntryState.live_eq_true_iff.mp hlive with hstate | hstate | hstate <;> simp only [hstate] at h <;> cases h
  · exact OttEntry.fencedOff_not_live (Bool.eq_false_iff.mpr hlive)

theorem OttEntry.fencedOff_src (n : DPort) (e : OttEntry) : (e.fencedOff n).src = e.src := by
  unfold OttEntry.fencedOff
  split
  · rfl
  · split <;> rfl

theorem State.Idle.orphanTest {s : State} {y : UPort} (h : s.Idle y) (n : DPort) : (s.orphanTest n).Idle y := by
  refine ⟨fun k hsrc => ?_, ?_⟩
  · have hsrc' : (s.entry k).src = y := by
      rw [State.orphanTest_entry] at hsrc
      split at hsrc
      · rwa [OttEntry.fencedOff_src] at hsrc
      · exact hsrc
    rw [State.orphanTest_entry, OttEntry.fencedOff_not_live (h.1 k hsrc'), ite_self]
    exact h.1 k hsrc'
  · rw [State.waitingHead_of_get (State.orphanTest_up_of_idle h n)]
    exact h.2

/-- The tests of several ports, one after another. -/
structure State.Tests (s t : State) (l : List DPort) : Prop where
  entry   : ∀ k, t.entry k = s.tested l (s.entry k)
  down    : ∀ m, t.down.get m =
    if m ∈ l ∧ s.overflows m = true then ((s.down.get m).fencedFor .orphans).flushed else s.down.get m
  idle    : ∀ y, s.Idle y → t.up.get y = s.up.get y
  waiting : ∀ y p, t.waitingHead y = some p → s.waitingHead y = some p
  same    : (∀ m ∈ l, s.overflows m = false) → t = s
  carries : s.Carries t

theorem State.foldl_orphanTest {l : List DPort} (hl : l.Nodup) (s : State) : s.Tests (l.foldl State.orphanTest s) l := by
  induction l generalizing s with
  | nil =>
    refine ⟨fun k => ?_, fun m => ?_, fun _ _ => rfl, fun _ _ h => h, fun _ => rfl, .refl s⟩
    · rw [State.tested, if_neg fun h => List.not_mem_nil h.1]
      rfl
    · rw [if_neg fun h => List.not_mem_nil h.1]
      rfl
  | cons n l ih =>
    obtain ⟨hn, hl⟩ := List.nodup_cons.mp hl
    have hrest := ih hl (s.orphanTest n)
    rw [List.foldl_cons]
    have hmem {m : DPort} (hm : m ≠ n) :
        (m ∈ l ∧ (s.orphanTest n).overflows m = true) ↔ m ∈ n :: l ∧ s.overflows m = true := by
      rw [(s.orphanTest_others hm).2.2, List.mem_cons, or_iff_right hm]
    refine ⟨fun k => ?_, fun m => ?_, fun y hy => ?_,
      fun y p h => State.orphanTest_waitingHead (hrest.waiting y p h), fun hno => ?_,
      (s.orphanTest_carries n).trans hrest.carries⟩
    · rw [hrest.entry, State.orphanTest_entry, State.tested, State.tested]
      by_cases hk : (s.entry k).egress = n
      · have hegress : (if s.overflows n = true then (s.entry k).fencedOff n else s.entry k).egress = n := by
          split
          · rw [OttEntry.fencedOff_egress, hk]
          · exact hk
        rw [hegress, if_neg fun h => hn h.1, hk]
        simp only [List.mem_cons_self, true_and]
      · have hsame : (if s.overflows n = true then (s.entry k).fencedOff n else s.entry k) = s.entry k := by
          rw [OttEntry.fencedOff_of_ne hk, ite_self]
        rw [hsame]
        simp only [hmem hk]
    · rw [hrest.down]
      by_cases hm : m = n
      · subst hm
        rw [if_neg fun h => hn h.1, State.orphanTest_down]
        simp only [List.mem_cons_self, true_and]
      · rw [(s.orphanTest_others hm).1]
        simp only [hmem hm]
    · rw [hrest.idle y (hy.orphanTest n), State.orphanTest_up_of_idle hy]
    · have hsame := State.orphanTest_of_not_overflows (hno n List.mem_cons_self)
      rw [hsame] at hrest ⊢
      exact hrest.same fun m hm => hno m (List.mem_cons_of_mem n hm)

/-! ### The departure of Ux (R66, R90) -/

/-- Ux with its link DOWN (R66, R144). -/
def Upstream.unplugged (u : Upstream) : Upstream :=
  { u with
    link := .down
    ingress := []
    waiting := none
    returnQueue := []
    pendingCredits := 0
    credits := 0
    counters := { u.counters with linkDowns := satInc u.counters.linkDowns } }

/-- The port and its cause, then the DROPPED handing of the head that was lost (log 11). -/
def State.unplugged (s : State) (x : UPort) : State :=
  match s.waitingHead x with
  | some (r, d) => ((s.onUp x Upstream.unplugged).raise (.linkChangeU x)).handRequest (droppedHanding x r d)
  | none => (s.onUp x Upstream.unplugged).raise (.linkChangeU x)

/-- The port and its entries (R66, R90). -/
def State.departed (s : State) (x : UPort) : State := ottIndices.foldl (State.departEntry x) (s.unplugged x)

theorem State.upstreamLinkDown_eq {s : State} {x : UPort} (h : (s.up.get x).link = .up) :
    s.upstreamLinkDown x = (DPort.all.foldl State.orphanTest (s.departed x)).allocate := by
  unfold State.upstreamLinkDown State.departed State.unplugged
  rw [h, if_neg (by decide)]
  dsimp only
  cases s.waitingHead x <;> rfl

theorem State.unplugged_up (s : State) (x : UPort) : (s.unplugged x).up = s.up.modify x Upstream.unplugged := by
  unfold State.unplugged
  split
  · rw [State.handRequest_up]
    rfl
  · rfl

theorem State.unplugged_down (s : State) (x : UPort) : (s.unplugged x).down = s.down := by
  unfold State.unplugged
  split
  · rw [State.handRequest_down]
    rfl
  · rfl

theorem State.unplugged_entry (s : State) (x : UPort) (k : Fin 128) : (s.unplugged x).entry k = s.entry k := by
  unfold State.unplugged
  split
  · rw [State.handRequest_entry]
    rfl
  · rfl

theorem State.unplugged_carries (s : State) (x : UPort) :
    s.Carries (s.unplugged x) ∧ (s.unplugged x).notice.cause.getLsbD (12 + x.code) = true := by
  have hport : s.Carries ((s.onUp x Upstream.unplugged).raise (.linkChangeU x)) :=
    ((State.Carries.refl s).onUp x _).raise _
  have hcause := State.raise_sets (s.onUp x Upstream.unplugged) (.linkChangeU x)
  unfold State.unplugged
  split
  · exact ⟨hport.trans (State.handRequest_carries _ _), (State.handRequest_carries _ _).causes _ hcause⟩
  · exact ⟨hport, hcause⟩

/-- The handing meets the capture unit as it stood (R66, R149). -/
theorem State.unplugged_capture (s : State) (x : UPort) :
    (s.unplugged x).capture =
      match s.waitingHead x with
      | some (r, d) => (s.handRequest (droppedHanding x r d)).capture
      | none => s.capture := by
  have hsame : ((s.onUp x Upstream.unplugged).raise (.linkChangeU x)).SameCapture s := ⟨rfl, rfl⟩
  unfold State.unplugged
  cases s.waitingHead x with
  | none => rfl
  | some p => exact (hsame.handRequest _).capture

/-- A downstream port whose queue may have lost items. -/
def Downstream.Thinned (d e : Downstream) : Prop := ∃ q, q.Sublist d.egress ∧ e = { d with egress := q }

theorem Downstream.Thinned.refl (d : Downstream) : d.Thinned d := ⟨d.egress, List.Sublist.refl _, rfl⟩

theorem Downstream.Thinned.trans {d e f : Downstream} (h : d.Thinned e) (h' : e.Thinned f) : d.Thinned f := by
  obtain ⟨q, hq, rfl⟩ := h
  obtain ⟨q', hq', rfl⟩ := h'
  exact ⟨q', hq'.trans hq, rfl⟩

theorem State.dropItem_down (s : State) (k : Fin 128) (n : DPort) : (s.down.get n).Thinned ((s.dropItem k).down.get n) := by
  rw [State.dropItem, State.onDown_down, PerDown.get_modify]
  split
  · exact ⟨_, List.filter_sublist, rfl⟩
  · exact .refl _

/-- The departure of one entry touches that entry and the queue of its port. -/
theorem State.departEntry_spec (x : UPort) (s : State) (k : Fin 128) :
    s.departEntry x k = { s with down := (s.departEntry x k).down, ott := (s.departEntry x k).ott }
      ∧ (∀ j, (s.departEntry x k).entry j = if j = k then (s.entry k).departed x else s.entry j)
      ∧ ∀ n, (s.down.get n).Thinned ((s.departEntry x k).down.get n) := by
  unfold State.departEntry OttEntry.departed
  split
  · exact ⟨rfl, entry_of_unchanged (g := id) rfl, fun _ => .refl _⟩
  · cases (s.entry k).state with
    | pending => exact ⟨rfl, State.release_entry _ k, s.dropItem_down k⟩
    | issued => exact ⟨rfl, s.orphan_entry k, fun _ => .refl _⟩
    | streaming => exact ⟨rfl, s.orphan_entry k, fun _ => .refl _⟩
    | orphan => exact ⟨rfl, entry_of_unchanged (g := id) rfl, fun _ => .refl _⟩
    | free => exact ⟨rfl, entry_of_unchanged (g := id) rfl, fun _ => .refl _⟩

theorem State.departed_entry (s : State) (x : UPort) (k : Fin 128) : (s.departed x).entry k = (s.entry k).departed x := by
  rw [State.departed, foldl_ottIndices_entry fun s k => (s.departEntry_spec x k).2.1, State.unplugged_entry]

theorem State.departed_only (s : State) (x : UPort) :
    (s.departed x).up = s.up.modify x Upstream.unplugged ∧ (s.departed x).capture = (s.unplugged x).capture
      ∧ s.Carries (s.departed x) ∧ (s.departed x).notice.cause.getLsbD (12 + x.code) = true := by
  have kept {β : Type} (g : State → β) (hg : ∀ s k, g (State.departEntry x s k) = g s) :
      g (s.departed x) = g (s.unplugged x) := foldl_keeps g _ hg ottIndices _
  obtain ⟨hcarries, hcause⟩ := s.unplugged_carries x
  have hnotice := kept State.notice fun s k => by rw [(s.departEntry_spec x k).1]
  refine ⟨?_, kept State.capture fun s k => by rw [(s.departEntry_spec x k).1], ⟨?_, ?_, fun b hb => ?_⟩, ?_⟩
  · rw [kept State.up fun s k => by rw [(s.departEntry_spec x k).1], State.unplugged_up]
  · rw [kept State.windows fun s k => by rw [(s.departEntry_spec x k).1], hcarries.windows]
  · rw [kept State.outputs fun s k => by rw [(s.departEntry_spec x k).1], hcarries.outputs]
  · rw [hnotice]
    exact hcarries.causes b hb
  · rw [hnotice]
    exact hcause

theorem State.departed_down (s : State) (x : UPort) (n : DPort) : (s.down.get n).Thinned ((s.departed x).down.get n) := by
  have hfold (l : List (Fin 128)) (t : State) :
      (t.down.get n).Thinned ((l.foldl (State.departEntry x) t).down.get n) := by
    induction l generalizing t with
    | nil => exact .refl _
    | cons k l ih => exact ((t.departEntry_spec x k).2.2 n).trans (ih _)
  have h := hfold ottIndices (s.unplugged x)
  rw [State.unplugged_down] at h
  exact h

/-! ### What an allocation event leaves (R73) -/

theorem State.allocate_entry_cases (s : State) (k : Fin 128) :
    s.allocate.entry k = s.entry k ∨ ∃ x, (s.entry k).state = .free ∧ s.Grants x k (s.allocate.entry k) := by
  obtain ⟨tickets, h⟩ := s.allocate_allocates
  by_cases htaken : ∃ x, tickets x = some (.entry k)
  · obtain ⟨x, hx⟩ := htaken
    exact .inr ⟨x, h.grants x k hx⟩
  · exact .inl (h.entry k fun x hx => htaken ⟨x, hx⟩)

theorem State.allocate_up_of_no_head {s : State} {x : UPort} (h : s.waitingHead x = none) :
    s.allocate.up.get x = s.up.get x := by
  obtain ⟨tickets, halloc⟩ := s.allocate_allocates
  rw [halloc.up, if_neg]
  intro hticket
  obtain ⟨r, d, hhead, -⟩ := halloc.wants x hticket
  rw [h] at hhead
  cases hhead

theorem State.allocate_down (s : State) (n : DPort) : (s.down.get n).Joins (s.allocate.down.get n) := by
  obtain ⟨tickets, h⟩ := s.allocate_allocates
  exact h.joins n

theorem State.allocate_carries (s : State) : s.Carries s.allocate := by
  obtain ⟨tickets, h⟩ := s.allocate_allocates
  exact h.carries

/-- An entry that is granted was no orphan and is none. -/
theorem State.allocate_orphanCount (s : State) (n : DPort) : s.allocate.orphanCount n = s.orphanCount n := by
  refine State.orphanCount_congr fun k => ?_
  rcases s.allocate_entry_cases k with hsame | ⟨x, hfree, hgrants⟩
  · rw [hsame]
  · rw [hfree, hgrants.pending]
    simp

theorem State.allocate_of_no_heads {s : State} (h : ∀ x, s.waitingHead x = none) : s.allocate = s :=
  State.allocate_of_no_claim fun x => by
    rw [State.wantsSlot, h x]

/-! ### Grants under the settings kept -/

/-- Candidacy rests on the settings of the capture unit (R148, R163). -/
theorem Capture.candidate_of_settings {c d : Capture} (h : d.settings = c.settings) (g : Handing) :
    d.candidate g = c.candidate g := by
  simp only [Capture.settings, CaptureSettings.mk.injEq] at h
  obtain ⟨ha, hb, hcombine, -, hmgmt, hdefault, -⟩ := h
  have hmode (code : WindowCode) : d.modeFor code = c.modeFor code := by
    cases code <;> simp only [Capture.modeFor, hmgmt, hdefault]
  simp only [Capture.candidate, Capture.combined, hmode, ha, hb, hcombine]

theorem State.granted_of_kept {s t : State} (h : t.kept = s.kept) (x : UPort) (r : Request) (d : Decoded)
    (kind : AnsweredKind) (k : Fin 128) : t.granted x r d kind k = s.granted x r d kind k := by
  have hsettings := State.kept_settings h
  have htimeout : (t.down.get d.egress).rspTimeout = (s.down.get d.egress).rspTimeout := by
    have hport : (t.down.get d.egress).settings = (s.down.get d.egress).settings := by
      simpa [State.settings] using congrArg (PerDown.get · d.egress) (congrArg Settings.down hsettings)
    exact congrArg DownSettings.rspTimeout hport
  have hcandidate := Capture.candidate_of_settings (congrArg Settings.capture hsettings) (forwardHanding x r d (.entry k))
  rw [State.granted, State.granted, htimeout, hcandidate, State.kept_time h]

/-! ### The bridge before the allocation event -/

/-- The port, its entries and the orphan limit tests (R66, R90, R106). -/
def State.afterTests (s : State) (x : UPort) : State := DPort.all.foldl State.orphanTest (s.departed x)

theorem OttEntry.departed_of_ne {x : UPort} {e : OttEntry} (h : e.src ≠ x) : e.departed x = e := if_pos h

theorem OttEntry.departed_not_live {x : UPort} {e : OttEntry} (h : e.src = x) : (e.departed x).state.live = false := by
  unfold OttEntry.departed
  rw [if_neg (not_not.mpr h)]
  split
  · rfl
  · rfl
  · rfl
  · next hstate => rw [hstate]; rfl
  · next hstate => rw [hstate]; rfl

theorem OttEntry.departed_src (x : UPort) (e : OttEntry) : (e.departed x).src = e.src := by
  unfold OttEntry.departed
  split
  · rfl
  · split <;> rfl

section
variable (s : State) (x : UPort)

theorem DPort.nodup_all : DPort.all.Nodup := by decide

theorem DPort.mem_all (n : DPort) : n ∈ DPort.all := by cases n <;> decide

theorem State.afterTests_tests : (s.departed x).Tests (s.afterTests x) DPort.all :=
  State.foldl_orphanTest DPort.nodup_all _

theorem State.departed_idle : (s.departed x).Idle x := by
  refine ⟨fun k hsrc => ?_, ?_⟩
  · rw [State.departed_entry] at hsrc ⊢
    rw [OttEntry.departed_src] at hsrc
    exact OttEntry.departed_not_live hsrc
  · simp only [State.waitingHead, (s.departed_only x).1, PerUp.get_modify_self, Upstream.unplugged]

theorem State.afterTests_up : (s.afterTests x).up.get x = (s.up.get x).unplugged := by
  rw [(s.afterTests_tests x).idle x (s.departed_idle x), (s.departed_only x).1, PerUp.get_modify_self]

theorem State.afterTests_waitingHead_self : (s.afterTests x).waitingHead x = none := by
  simp only [State.waitingHead, State.afterTests_up, Upstream.unplugged]

theorem State.afterTests_waitingHead {y : UPort} {p : Request × Decoded} (h : (s.afterTests x).waitingHead y = some p) :
    s.waitingHead y = some p := by
  rcases UPort.eq_or_other x y with rfl | rfl
  · rw [State.afterTests_waitingHead_self] at h
    cases h
  · have hdeparted := (s.afterTests_tests x).waiting _ p h
    have hget : (s.departed x).up.get x.other = s.up.get x.other := by rw [(s.departed_only x).1, PerUp.get_modify_other]
    rwa [State.waitingHead_of_get hget] at hdeparted

theorem State.afterTests_down (n : DPort) :
    (s.afterTests x).down.get n =
      if (s.departed x).overflows n then (((s.departed x).down.get n).fencedFor .orphans).flushed
      else (s.departed x).down.get n := by
  rw [(s.afterTests_tests x).down]
  simp only [DPort.mem_all, true_and]

theorem State.afterTests_entry (k : Fin 128) :
    (s.afterTests x).entry k =
      if (s.departed x).overflows (s.entry k).egress = true then
        ((s.entry k).departed x).fencedOff (s.entry k).egress
      else (s.entry k).departed x := by
  have hegress : ((s.entry k).departed x).egress = (s.entry k).egress := by
    unfold OttEntry.departed
    split
    · rfl
    · split <;> rfl
  rw [(s.afterTests_tests x).entry, State.departed_entry, State.tested, hegress]
  simp only [DPort.mem_all, true_and]

/-- An entry of Ux has ended before the tests, which leave it. -/
theorem State.afterTests_entry_own {k : Fin 128} (h : (s.entry k).src = x) :
    (s.afterTests x).entry k = (s.entry k).departed x := by
  rw [State.afterTests_entry, OttEntry.fencedOff_not_live (OttEntry.departed_not_live h), ite_self]

theorem State.afterTests_entry_other {k : Fin 128} (h : (s.entry k).src = x.other) :
    (s.afterTests x).entry k =
      if (s.departed x).overflows (s.entry k).egress = true then (s.entry k).fencedOff (s.entry k).egress
      else s.entry k := by
  have hne : (s.entry k).src ≠ x := fun heq => UPort.ne_other x (heq.symm.trans h)
  rw [State.afterTests_entry, OttEntry.departed_of_ne hne]

theorem State.afterTests_kept : (s.afterTests x).kept = s.kept := by
  unfold State.afterTests State.departed State.unplugged
  rw [foldl_keeps State.kept _ State.orphanTest_kept, foldl_keeps State.kept _ (State.departEntry_kept x)]
  split <;> simp only [State.handRequest_kept, State.raise_kept] <;> exact s.onUp_kept x _ fun _ => rfl

theorem State.afterTests_fenced (n : DPort) :
    ((s.afterTests x).down.get n).fenced = ((s.down.get n).fenced || (s.departed x).overflows n) := by
  obtain ⟨q, -, hthin⟩ := s.departed_down x n
  rw [State.afterTests_down, hthin]
  split
  · next hover => rw [hover, Bool.or_true]; rfl
  · next hover => rw [Bool.eq_false_iff.mpr hover, Bool.or_false]

/-- A port is fenced by the tests exactly where its orphans have reached the limit (R106). -/
theorem State.afterTests_overflows {n : DPort} (hclear : (s.down.get n).fenced = false) :
    ((s.afterTests x).down.get n).fenced = true ↔
      ((s.afterTests x).down.get n).orphanLimit ≤ (s.afterTests x).orphanCount n := by
  obtain ⟨q, -, hthin⟩ := s.departed_down x n
  have hlimit : ((s.afterTests x).down.get n).orphanLimit = ((s.departed x).down.get n).orphanLimit := by
    rw [State.afterTests_down]
    split <;> rfl
  have hclear' : ((s.departed x).down.get n).fenced = false := by rw [hthin]; exact hclear
  rw [State.afterTests_fenced, hclear, Bool.false_or, hlimit]
  have htests := s.afterTests_tests x
  constructor
  · intro hover
    refine (State.overflows_iff.mp hover).2.trans (State.orphanCount_le fun k horphan hn => ?_)
    rw [htests.entry, State.tested, OttEntry.fencedOff_orphan horphan, ite_self]
    exact ⟨horphan, hn⟩
  · intro hle
    by_contra hover
    have hcount : (s.afterTests x).orphanCount n ≤ (s.departed x).orphanCount n := State.orphanCount_le fun k horphan hn => by
      rw [htests.entry, State.tested] at horphan hn
      split at horphan
      · next htested =>
        rw [if_pos htested, OttEntry.fencedOff_egress] at hn
        exact absurd (hn ▸ htested.2) hover
      · next htested =>
        rw [if_neg htested] at hn
        exact ⟨horphan, hn⟩
    exact hover (State.overflows_iff.mpr ⟨hclear', hle.trans hcount⟩)

end

end Sys2Proof.Machine
end

section
/-! PROOFS. The link-down of an upstream port, settled (R66, R90, R106). -/

namespace Sys2Proof.Machine

-- One after another: checked side by side, the theorems exceed the memory limit of check.sh.
set_option Elab.async false

section
variable (s : State) (x : UPort)

/-- The allocation event can only grant an entry to the waiting head of the other port, since that of Ux was lost (R66, R90). -/
theorem State.afterTests_allocate_entry (k : Fin 128) :
    (s.afterTests x).allocate.entry k = (s.afterTests x).entry k
      ∨ ((s.afterTests x).entry k).state = .free ∧ s.Grants x.other k ((s.afterTests x).allocate.entry k) := by
  refine (State.allocate_entry_cases (s.afterTests x) k).imp_right fun ⟨y, hfree, r, d, kind, hhead, hkind, hentry⟩ => ?_
  rcases UPort.eq_or_other x y with rfl | rfl
  · rw [State.afterTests_waitingHead_self] at hhead
    cases hhead
  · rw [State.granted_of_kept (s.afterTests_kept x)] at hentry
    exact ⟨hfree, r, d, kind, s.afterTests_waitingHead x hhead, hkind, hentry⟩

/-- Where the tests leave the egress port of an entry of the other port, they leave the entry. -/
theorem State.afterTests_entry_unfenced {k : Fin 128} (hsrc : (s.entry k).src = x.other)
    (h : (s.departed x).overflows (s.entry k).egress = false) : (s.afterTests x).entry k = s.entry k := by
  rw [State.afterTests_entry_other s x hsrc, h, if_neg Bool.false_ne_true]

theorem State.afterTests_src (k : Fin 128) : ((s.afterTests x).entry k).src = (s.entry k).src := by
  rw [State.afterTests_entry]
  split
  · rw [OttEntry.fencedOff_src, OttEntry.departed_src]
  · exact OttEntry.departed_src x _

/-- The tests fence no port whose flag is set. -/
theorem State.departed_overflows_clear {n : DPort} (h : (s.departed x).overflows n = true) : (s.down.get n).fenced = false := by
  obtain ⟨q, -, hthin⟩ := s.departed_down x n
  have hclear := (State.overflows_iff.mp h).1
  rwa [hthin] at hclear

theorem State.afterTests_allocate_fenced (n : DPort) :
    ((s.afterTests x).allocate.down.get n).fenced = ((s.down.get n).fenced || (s.departed x).overflows n) := by
  obtain ⟨items, admission, hjoin⟩ := (s.afterTests x).allocate_down n
  rw [hjoin]
  exact s.afterTests_fenced x n

/-- A downstream port keeps its link and its credits throughout. -/
theorem State.afterTests_allocate_line (n : DPort) :
    ((s.afterTests x).allocate.down.get n).link = (s.down.get n).link
      ∧ ((s.afterTests x).allocate.down.get n).credits = (s.down.get n).credits := by
  obtain ⟨items, admission, hjoin⟩ := (s.afterTests x).allocate_down n
  obtain ⟨q, -, hthin⟩ := s.departed_down x n
  rw [hjoin, State.afterTests_down, hthin]
  split <;> exact ⟨rfl, rfl⟩

theorem State.afterTests_carries :
    s.Carries (s.afterTests x).allocate ∧ (s.afterTests x).allocate.notice.cause.getLsbD (12 + x.code) = true := by
  obtain ⟨-, -, hcarries, hcause⟩ := s.departed_only x
  have hrest := (s.afterTests_tests x).carries.trans (State.allocate_carries _)
  exact ⟨hcarries.trans hrest, hrest.causes _ hcause⟩

/-- Where no test fences and no head of the other port waits, nothing follows the departure. -/
theorem State.afterTests_allocate_alone (hclear : ∀ n, (s.departed x).overflows n = false)
    (hhead : s.waitingHead x.other = none) : (s.afterTests x).allocate = s.departed x := by
  have hsame : s.afterTests x = s.departed x := (s.afterTests_tests x).same fun n _ => hclear n
  rw [← hsame]
  refine State.allocate_of_no_heads fun y => ?_
  rcases UPort.eq_or_other x y with rfl | rfl
  · exact s.afterTests_waitingHead_self _
  · by_contra hsome
    obtain ⟨p, hp⟩ := Option.ne_none_iff_exists'.mp hsome
    rw [s.afterTests_waitingHead x hp] at hhead
    cases hhead

end

/-- How an entry ends with its requester or with its egress port (R88, R90). -/
def OttEntry.ended (e : OttEntry) : OttEntry :=
  match e.state with
  | .pending => e.freed
  | .issued => e.orphaned
  | .streaming => e.orphaned
  | .orphan => e
  | .free => e

theorem State.afterTests_entry_ended {s : State} {x : UPort} {k : Fin 128}
    (h : (s.entry k).src = x ∨ (s.entry k).src = x.other ∧ (s.departed x).overflows (s.entry k).egress = true) :
    (s.afterTests x).entry k = (s.entry k).ended := by
  rcases h with hsrc | ⟨hsrc, hover⟩
  · rw [State.afterTests_entry_own s x hsrc]
    exact if_neg (not_not.mpr hsrc)
  · rw [State.afterTests_entry_other s x hsrc, hover]
    exact (if_pos rfl).trans (if_neg (not_not.mpr rfl))

/-- What becomes of an entry that ends: where it is FREE then, the allocation event may have granted it. -/
theorem State.afterTests_allocate_ended {s : State} {x : UPort} {k : Fin 128}
    (h : (s.afterTests x).entry k = (s.entry k).ended) :
    match (s.entry k).state with
    | .pending =>
      (s.afterTests x).allocate.entry k = (s.entry k).freed
        ∨ s.Grants x.other k ((s.afterTests x).allocate.entry k)
    | .issued => (s.afterTests x).allocate.entry k = (s.entry k).orphaned
    | .streaming => (s.afterTests x).allocate.entry k = (s.entry k).orphaned
    | .orphan => (s.afterTests x).allocate.entry k = s.entry k
    | .free =>
      (s.afterTests x).allocate.entry k = s.entry k ∨ s.Grants x.other k ((s.afterTests x).allocate.entry k) := by
  have hfinal := s.afterTests_allocate_entry x k
  rw [h, OttEntry.ended] at hfinal
  cases hstate : (s.entry k).state with
  | pending =>
    rw [hstate] at hfinal
    exact hfinal.imp_right And.right
  | issued =>
    rw [hstate] at hfinal
    exact hfinal.resolve_right fun hgranted => EntryState.noConfusion hgranted.1
  | streaming =>
    rw [hstate] at hfinal
    exact hfinal.resolve_right fun hgranted => EntryState.noConfusion hgranted.1
  | orphan =>
    rw [hstate] at hfinal
    exact hfinal.resolve_right fun hgranted => absurd (hstate.symm.trans hgranted.1) (by decide)
  | free =>
    rw [hstate] at hfinal
    exact hfinal.imp_right And.right

/-- No live entry of Ux is left (R90). -/
theorem State.afterTests_allocate_live {s : State} {x : UPort} {k : Fin 128}
    (h : ((s.afterTests x).allocate.entry k).state.live = true) : ((s.afterTests x).allocate.entry k).src = x.other := by
  rcases s.afterTests_allocate_entry x k with hentry | ⟨-, r, d, kind, -, -, hentry⟩
  · rw [hentry] at h ⊢
    rcases UPort.eq_or_other x ((s.afterTests x).entry k).src with hsrc | hsrc
    · rw [State.afterTests_src] at hsrc
      rw [State.afterTests_entry_own s x hsrc, OttEntry.departed_not_live hsrc] at h
      cases h
    · exact hsrc
  · rw [hentry]
    rfl

/-- A clear fence rises exactly where the orphans that are left reach the limit, and for that reason (R106). -/
theorem State.afterTests_allocate_fence {s : State} {x : UPort} {n : DPort} (hclear : (s.down.get n).fenced = false) :
    (((s.afterTests x).allocate.down.get n).fenced = true ↔
        ((s.afterTests x).allocate.down.get n).orphanLimit ≤ (s.afterTests x).allocate.orphanCount n)
      ∧ (((s.afterTests x).allocate.down.get n).fenced = true → ((s.afterTests x).allocate.down.get n).reason = .orphans) := by
  have htests := s.afterTests_overflows x hclear
  have hfenced := s.afterTests_fenced x n
  obtain ⟨items, admission, hjoin⟩ := (s.afterTests x).allocate_down n
  rw [hjoin, State.allocate_orphanCount]
  refine ⟨htests, fun h => ?_⟩
  change ((s.afterTests x).down.get n).fenced = true at h
  rw [hfenced, hclear, Bool.false_or] at h
  change ((s.afterTests x).down.get n).reason = .orphans
  rw [State.afterTests_down, if_pos h]
  rfl

/-- Settles O4. -/
theorem upstreamLinkDownEndsThePort : Obligations.UpstreamLinkDownEndsThePort := by
  unfold Obligations.UpstreamLinkDownEndsThePort
  intro x s hheld
  have hexec : exec (.upstreamLinkDown x) s = .next (s.upstreamLinkDown x) :=
    whileRunning_of_released hheld fun s => s.upstreamLinkDown x
  refine ⟨fun hlink => ?_, fun hlink => ?_⟩
  · rw [hexec, State.upstreamLinkDown, if_pos hlink]
  have hkept := s.upstreamLinkDown_kept x
  have hdown : s.upstreamLinkDown x = (s.afterTests x).allocate := State.upstreamLinkDown_eq hlink
  rw [hdown] at hexec hkept
  obtain ⟨hcarries, hcause⟩ := s.afterTests_carries x
  refine ⟨_, hexec, ?_, hcause, fun k hsrc => State.afterTests_allocate_ended (State.afterTests_entry_ended (.inl hsrc)),
    fun k hsrc hfence => ?_, fun k hsrc hclear hfence => ?_, fun k => State.afterTests_allocate_live,
    fun n => State.afterTests_allocate_fence, fun hfences hhead => ?_, s.afterTests_allocate_line x,
    State.kept_settings hkept, State.kept_time hkept, State.kept_command hkept, hcarries.windows, hcarries.outputs,
    State.kept_pending hkept⟩
  · exact (State.allocate_up_of_no_head (s.afterTests_waitingHead_self x)).trans (s.afterTests_up x)
  · have hover : (s.departed x).overflows (s.entry k).egress = false := by
      by_contra hover
      have hover := Bool.eq_true_of_not_eq_false hover
      have hfenced := s.afterTests_allocate_fenced x (s.entry k).egress
      rw [← hfence, s.departed_overflows_clear x hover, hover] at hfenced
      cases hfenced
    have hkeeps := s.afterTests_entry_unfenced x hsrc hover
    have hentry := s.afterTests_allocate_entry x k
    rwa [hkeeps] at hentry
  · have hover := s.afterTests_allocate_fenced x (s.entry k).egress
    rw [hclear, Bool.false_or] at hover
    exact State.afterTests_allocate_ended (State.afterTests_entry_ended (.inr ⟨hsrc, hover.symm.trans hfence⟩))
  · have hnone : ∀ n, (s.departed x).overflows n = false := fun n => by
      by_contra hover
      have hover := Bool.eq_true_of_not_eq_false hover
      have hfenced := (s.afterTests_allocate_fenced x n).symm.trans (hfences n)
      rw [s.departed_overflows_clear x hover, hover] at hfenced
      cases hfenced
    have halone := s.afterTests_allocate_alone x hnone hhead
    obtain ⟨hup, hcapture, -⟩ := s.departed_only x
    rw [halone, hup, hcapture, State.unplugged_capture, PerUp.get_modify_other]
    exact ⟨rfl, by cases s.waitingHead x <;> rfl⟩

end Sys2Proof.Machine
end

section
/-! PROOFS. What the operations of traffic do to the table and to the heads (R49, R54, R61, R87 to R90): a relation that all of
them but the grants, the fences and the link events satisfy, and one lemma for each operation. -/

namespace Sys2Proof.Machine

-- One after another: checked side by side, the theorems exceed the memory limit of check.sh.
set_option Elab.async false

/-! ### A table that starts nothing -/

/-- A deadline or CAP stands in the entry (R69, R86). -/
def OttEntry.marked (e : OttEntry) : Prop := e.deadline.isSome = true ∨ e.cap = true

/-- No entry begins here: it stays what it was, or comes nearer its end; it may become ORPHAN where its egress port may have
more orphans. -/
structure OttEntry.Recedes (crowded : DPort → Prop) (e f : OttEntry) : Prop where
  live   : f.state.live = true → e.state.live = true ∧ f.src = e.src ∧ f.srcTag = e.srcTag
  busy   : f.state ≠ .free → e.state ≠ .free ∧ f.egress = e.egress
  orphan : f.state = .orphan → crowded e.egress ∨ e.state = .orphan
  marked : f.marked → e.marked ∧ (e.state.live = true → f.state.live = true)

/-- No head starts to wait here, and none takes the place of one that waits; a port that hears nothing gets nothing. -/
structure Upstream.Recedes (hears : Prop) (u v : Upstream) : Prop where
  link    : v.link = u.link
  waiting : v.waiting = none ∨ v.waiting = u.waiting ∧ u.ingress <+: v.ingress
  ingress : ¬ hears → u.ingress = [] → v.ingress = []
  returns : ¬ hears → u.returnQueue = [] → v.returnQueue = []

/-- A downstream port keeps its link, its fence and its limit, and gets no item. -/
structure Downstream.Recedes (d e : Downstream) : Prop where
  link      : e.link = d.link
  fenced    : e.fenced = d.fenced
  retrained : e.retrained = d.retrained
  limit     : e.orphanLimit = d.orphanLimit
  egress    : d.egress = [] → e.egress = []

/-- No entry begins, no head starts to wait, and the ports stay as they are. Only the ports that hear get requests and parts; only
the ports in `crowded` get orphans. -/
structure State.Recedes (hears : UPort → Prop) (crowded : DPort → Prop) (s t : State) : Prop where
  entry : ∀ k, (s.entry k).Recedes crowded (t.entry k)
  up    : ∀ x, (s.up.get x).Recedes (hears x) (t.up.get x)
  down  : ∀ n, (s.down.get n).Recedes (t.down.get n)

section
variable {crowded : DPort → Prop}

theorem OttEntry.Recedes.refl (e : OttEntry) : e.Recedes crowded e :=
  ⟨fun h => ⟨h, rfl, rfl⟩, fun h => ⟨h, rfl⟩, .inr, fun h => ⟨h, id⟩⟩

theorem OttEntry.Recedes.trans {e f g : OttEntry} (h : e.Recedes crowded f) (h' : f.Recedes crowded g) : e.Recedes crowded g := by
  refine ⟨fun hg => ?_, fun hg => ?_, fun hg => ?_, fun hg => ?_⟩
  · obtain ⟨hf, hsrc', htag'⟩ := h'.live hg
    obtain ⟨he, hsrc, htag⟩ := h.live hf
    exact ⟨he, hsrc'.trans hsrc, htag'.trans htag⟩
  · obtain ⟨hf, hegress'⟩ := h'.busy hg
    obtain ⟨he, hegress⟩ := h.busy hf
    exact ⟨he, hegress'.trans hegress⟩
  · rcases h'.orphan hg with hcrowded | hf
    · have hbusy : f.state ≠ .free := (h'.busy (by rw [hg]; decide)).1
      rw [(h.busy hbusy).2] at hcrowded
      exact .inl hcrowded
    · exact h.orphan hf
  · obtain ⟨hf, hlive'⟩ := h'.marked hg
    obtain ⟨he, hlive⟩ := h.marked hf
    exact ⟨he, hlive' ∘ hlive⟩

/-- What keeps the state, the requester, the tag and the egress port of an entry, and marks nothing. -/
theorem OttEntry.Recedes.of_same {e f : OttEntry} (hstate : f.state = e.state) (hsrc : f.src = e.src)
    (htag : f.srcTag = e.srcTag) (hegress : f.egress = e.egress) (hmarked : f.marked → e.marked) : e.Recedes crowded f :=
  ⟨fun h => ⟨hstate ▸ h, hsrc, htag⟩, fun h => ⟨hstate ▸ h, hegress⟩, fun h => .inr (hstate ▸ h),
    fun h => ⟨hmarked h, fun hlive => hstate.symm ▸ hlive⟩⟩

/-- A live entry that stays live (R77, R82). -/
theorem OttEntry.Recedes.of_live {e f : OttEntry} (he : e.state.live = true) (hf : f.state.live = true) (hsrc : f.src = e.src)
    (htag : f.srcTag = e.srcTag) (hegress : f.egress = e.egress) (hmarked : f.marked → e.marked) : e.Recedes crowded f := by
  refine ⟨fun _ => ⟨he, hsrc, htag⟩, fun _ => ⟨fun hfree => ?_, hegress⟩, fun horphan => ?_, fun h => ⟨hmarked h, fun _ => hf⟩⟩
  · rw [hfree] at he
    cases he
  · rw [horphan] at hf
    cases hf

/-- What is FREE and unmarked has ended. -/
theorem OttEntry.Recedes.of_free {e f : OttEntry} (hstate : f.state = .free) (hmarked : ¬ f.marked) : e.Recedes crowded f :=
  ⟨fun h => absurd (hstate ▸ h) (by decide), fun h => absurd hstate h, fun h => absurd (hstate.symm.trans h) (by decide),
    fun h => absurd h hmarked⟩

theorem OttEntry.freed_recedes (e : OttEntry) : e.Recedes crowded e.freed := .of_free rfl nofun

/-- An orphan whose egress port may have more of them (R69, R90). -/
theorem OttEntry.orphaned_recedes {e : OttEntry} (hbusy : e.state ≠ .free) (hcrowded : crowded e.egress) :
    e.Recedes crowded e.orphaned :=
  ⟨nofun, fun _ => ⟨hbusy, rfl⟩, fun _ => .inl hcrowded, nofun⟩

theorem Upstream.Recedes.refl {hears : Prop} (u : Upstream) : u.Recedes hears u :=
  ⟨rfl, .inr ⟨rfl, List.prefix_rfl⟩, fun _ => id, fun _ => id⟩

theorem Upstream.Recedes.trans {hears : Prop} {u v w : Upstream} (h : u.Recedes hears v) (h' : v.Recedes hears w) :
    u.Recedes hears w := by
  refine ⟨h'.link.trans h.link, ?_, fun hno => h'.ingress hno ∘ h.ingress hno, fun hno => h'.returns hno ∘ h.returns hno⟩
  rcases h'.waiting with hnone | ⟨hsame', hqueue'⟩
  · exact .inl hnone
  · exact h.waiting.imp hsame'.trans fun ⟨hsame, hqueue⟩ => ⟨hsame'.trans hsame, hqueue.trans hqueue'⟩

/-- What keeps the link and the queues of a port. -/
theorem Upstream.Recedes.of_same {hears : Prop} {u v : Upstream} (hlink : v.link = u.link) (hingress : v.ingress = u.ingress)
    (hwaiting : v.waiting = u.waiting) (hreturns : u.returnQueue = [] → v.returnQueue = []) : u.Recedes hears v :=
  ⟨hlink, hingress ▸ .inr ⟨hwaiting, List.prefix_rfl⟩, fun _ h => hingress.trans h, fun _ => hreturns⟩

/-- What takes the head away. -/
theorem Upstream.Recedes.of_no_head {hears : Prop} {u v : Upstream} (hlink : v.link = u.link) (hwaiting : v.waiting = none)
    (hingress : u.ingress = [] → v.ingress = []) (hreturns : u.returnQueue = [] → v.returnQueue = []) : u.Recedes hears v :=
  ⟨hlink, .inl hwaiting, fun _ => hingress, fun _ => hreturns⟩

theorem Downstream.Recedes.refl (d : Downstream) : d.Recedes d := ⟨rfl, rfl, rfl, rfl, id⟩

theorem Downstream.Recedes.trans {d e f : Downstream} (h : d.Recedes e) (h' : e.Recedes f) : d.Recedes f :=
  ⟨h'.link.trans h.link, h'.fenced.trans h.fenced, h'.retrained.trans h.retrained, h'.limit.trans h.limit,
    h'.egress ∘ h.egress⟩

end

namespace State.Recedes

section
variable {hears : UPort → Prop} {crowded : DPort → Prop}

theorem refl (s : State) : s.Recedes hears crowded s := ⟨fun _ => .refl _, fun _ => .refl _, fun _ => .refl _⟩

variable {s t : State}

theorem trans {r : State} (h : s.Recedes hears crowded t) (h' : t.Recedes hears crowded r) : s.Recedes hears crowded r :=
  ⟨fun k => (h.entry k).trans (h'.entry k), fun x => (h.up x).trans (h'.up x), fun n => (h.down n).trans (h'.down n)⟩

/-! ### Field updates -/

/-- What changes neither the table nor the ports. -/
theorem same {r : State} (h : s.Recedes hears crowded t) (hup : r.up = t.up) (hdown : r.down = t.down) (hott : r.ott = t.ott) :
    s.Recedes hears crowded r :=
  h.trans ⟨fun k => (State.entry_congr hott k).symm ▸ .refl _, fun _ => hup ▸ .refl _, fun _ => hdown ▸ .refl _⟩

theorem onUp (h : s.Recedes hears crowded t) (x : UPort) {f : Upstream → Upstream}
    (hf : (t.up.get x).Recedes (hears x) (f (t.up.get x))) : s.Recedes hears crowded (t.onUp x f) := by
  refine h.trans ⟨fun _ => .refl _, fun y => ?_, fun _ => .refl _⟩
  rw [State.onUp_up, PerUp.get_modify]
  split
  · next hy => rw [hy]; exact hf
  · exact .refl _

theorem onDown (h : s.Recedes hears crowded t) (n : DPort) {f : Downstream → Downstream}
    (hf : (t.down.get n).Recedes (f (t.down.get n))) : s.Recedes hears crowded (t.onDown n f) := by
  refine h.trans ⟨fun _ => .refl _, fun _ => .refl _, fun m => ?_⟩
  rw [State.onDown_down, PerDown.get_modify]
  split
  · next hm => rw [hm]; exact hf
  · exact .refl _

theorem onEntry (h : s.Recedes hears crowded t) (k : Fin 128) {f : OttEntry → OttEntry}
    (hf : (t.entry k).Recedes crowded (f (t.entry k))) : s.Recedes hears crowded (t.onEntry k f) := by
  refine h.trans ⟨fun j => ?_, fun _ => .refl _, fun _ => .refl _⟩
  rw [State.entry_onEntry]
  split
  · next hj => rw [hj]; exact hf
  · exact .refl _

theorem onCapture (h : s.Recedes hears crowded t) (f : Capture → Capture) : s.Recedes hears crowded (t.onCapture f) :=
  h.same rfl rfl rfl

theorem onNotice (h : s.Recedes hears crowded t) (f : NoticeUnit → NoticeUnit) : s.Recedes hears crowded (t.onNotice f) :=
  h.same rfl rfl rfl

theorem onWindow (h : s.Recedes hears crowded t) (i : Fin 16) (f : WindowEntry → WindowEntry) :
    s.Recedes hears crowded (t.onWindow i f) :=
  h.same rfl rfl rfl

theorem emit (h : s.Recedes hears crowded t) (o : Output) : s.Recedes hears crowded (t.emit o) := h.same rfl rfl rfl

theorem raise (h : s.Recedes hears crowded t) (c : Cause) : s.Recedes hears crowded (t.raise c) := h.same rfl rfl rfl

theorem raiseOpt (h : s.Recedes hears crowded t) (c : Option Cause) : s.Recedes hears crowded (t.raiseOpt c) :=
  h.same (t.raiseOpt_up c) (t.raiseOpt_down c) (t.raiseOpt_ott c)

theorem countUp (h : s.Recedes hears crowded t) (x : UPort) (f : UpCounters → UpCounters) :
    s.Recedes hears crowded (t.countUp x f) :=
  h.onUp x (.of_same rfl rfl rfl id)

theorem countDown (h : s.Recedes hears crowded t) (n : DPort) (f : DownCounters → DownCounters) :
    s.Recedes hears crowded (t.countDown n f) :=
  h.onDown n ⟨rfl, rfl, rfl, rfl, id⟩

theorem foldl {α : Type} (h : s.Recedes hears crowded t) {f : State → α → State}
    (hf : ∀ r a, s.Recedes hears crowded r → s.Recedes hears crowded (f r a)) (l : List α) :
    s.Recedes hears crowded (l.foldl f t) := by
  induction l generalizing t with
  | nil => exact h
  | cons a l ih => exact ih (hf t a h)

/-! ### Parts and heads -/

theorem protocolErrorUp (h : s.Recedes hears crowded t) (x : UPort) : s.Recedes hears crowded (t.protocolErrorUp x) :=
  (h.countUp x _).raise _

theorem protocolErrorDown (h : s.Recedes hears crowded t) (n : DPort) : s.Recedes hears crowded (t.protocolErrorDown n) :=
  (h.countDown n _).raise _

theorem placePart (h : s.Recedes hears crowded t) {x : UPort} (hx : hears x) (p : Part) :
    s.Recedes hears crowded (t.placePart x p) := by
  unfold State.placePart
  split
  · exact h.protocolErrorUp x
  · exact h.onUp x ⟨rfl, .inr ⟨rfl, List.prefix_rfl⟩, fun hno => absurd hx hno, fun hno => absurd hx hno⟩

theorem placeParts (h : s.Recedes hears crowded t) {x : UPort} (hx : hears x) (ps : List Part) :
    s.Recedes hears crowded (t.placeParts x ps) :=
  h.foldl (fun _ p hr => hr.placePart hx p) ps

theorem answer (h : s.Recedes hears crowded t) {x : UPort} (hx : hears x) (r : Request) (status : Status) :
    s.Recedes hears crowded (t.answer x r status) := by
  rw [State.answer_eq_placeParts]
  exact h.placeParts hx _

theorem handRequest (h : s.Recedes hears crowded t) (g : Handing) : s.Recedes hears crowded (t.handRequest g) :=
  h.same (t.handRequest_up g) (t.handRequest_down g) (t.handRequest_ott g)

theorem popHead (h : s.Recedes hears crowded t) (x : UPort) : s.Recedes hears crowded (t.popHead x) :=
  h.onUp x (.of_no_head rfl rfl (fun hnil => by rw [hnil]; rfl) id)

theorem resolveHead (h : s.Recedes hears crowded t) (x : UPort) (r : Request) (code : WindowCode) (d : Disposition)
    (cause : Option Cause) (forward : Option ForwardInfo) :
    s.Recedes hears crowded (t.resolveHead x r code d cause forward) :=
  (((h.popHead x).countUp x _).raiseOpt cause).handRequest _

theorem refuseHead (h : s.Recedes hears crowded t) {x : UPort} (hx : hears x) (r : Request) (code : WindowCode) (d : Disposition)
    (status : Status) : s.Recedes hears crowded (t.refuseHead x r code d status) :=
  (h.answer hx r status).resolveHead x r code d _ none

/-! ### The life of an entry -/

theorem release (h : s.Recedes hears crowded t) (k : Fin 128) : s.Recedes hears crowded (t.release k) :=
  h.onEntry k (OttEntry.freed_recedes _)

theorem orphan (h : s.Recedes hears crowded t) {k : Fin 128} (hbusy : (t.entry k).state ≠ .free)
    (hcrowded : crowded (t.entry k).egress) : s.Recedes hears crowded (t.orphan k) :=
  h.onEntry k (OttEntry.orphaned_recedes hbusy hcrowded)

theorem complete (h : s.Recedes hears crowded t) (k : Fin 128) (status : Status) :
    s.Recedes hears crowded (t.complete k status) := by
  unfold State.complete
  split
  · refine (h.same (t.handCompletion_up k status) (t.handCompletion_down k status) (t.hand_ott _ _ _)).onEntry k ?_
    exact .of_same rfl rfl rfl rfl fun hmarked => .inl (hmarked.resolve_right Bool.false_ne_true)
  · exact h

theorem retire (h : s.Recedes hears crowded t) {k : Fin 128} (hsrc : hears (t.entry k).src) (status : Status) :
    s.Recedes hears crowded (t.retire k status) :=
  (h.placePart hsrc _).complete k status

theorem dropItem (h : s.Recedes hears crowded t) (k : Fin 128) : s.Recedes hears crowded (t.dropItem k) :=
  h.onDown _ ⟨rfl, rfl, rfl, rfl, fun hnil => by rw [hnil]; rfl⟩

/-- The issue of an item whose entry is live (R77). -/
theorem issueEntry (h : s.Recedes hears crowded t) {item : EgressItem}
    (hlive : ∀ k data, item = .entry k data → (t.entry k).state.live = true) : s.Recedes hears crowded (t.issueEntry item) := by
  cases item with
  | posted xaddr len data => exact h
  | entry k data =>
    exact h.onEntry k (f := fun e => { e with state := .issued }) (.of_live (hlive k data rfl) rfl rfl rfl rfl id)

/-- An entry that ends with a part becomes an orphan (R80, R99). -/
theorem retire_orphan (h : s.Recedes hears crowded t) {k : Fin 128} (hsrc : hears (t.entry k).src)
    (hbusy : (t.entry k).state ≠ .free) (hcrowded : crowded (t.entry k).egress) (status : Status) :
    s.Recedes hears crowded ((t.retire k status).orphan k) := by
  have hkeeps : ((t.retire k status).entry k).state = (t.entry k).state
      ∧ ((t.retire k status).entry k).egress = (t.entry k).egress := by
    rw [State.retire_entry]
    split <;> exact ⟨rfl, rfl⟩
  exact (h.retire hsrc status).orphan (by rwa [hkeeps.1]) (by rwa [hkeeps.2])

/-! ### Traffic -/

theorem recoverTest (h : s.Recedes hears crowded t) (n : DPort) : s.Recedes hears crowded (t.recoverTest n) := by
  unfold State.recoverTest
  dsimp only
  split
  · exact (h.onDown n ⟨rfl, rfl, rfl, rfl, id⟩).raise _
  · exact h

theorem degradeTest (h : s.Recedes hears crowded t) (n : DPort) : s.Recedes hears crowded (t.degradeTest n) := by
  unfold State.degradeTest
  dsimp only
  split
  · exact (h.onDown n ⟨rfl, rfl, rfl, rfl, id⟩).raise _
  · exact h

theorem countGood (h : s.Recedes hears crowded t) (n : DPort) : s.Recedes hears crowded (t.countGood n) :=
  (h.onDown n ⟨rfl, rfl, rfl, rfl, id⟩).recoverTest n

theorem requestArrives (h : s.Recedes hears crowded t) {x : UPort} (hx : hears x) (r : Request) :
    s.Recedes hears crowded (t.requestArrives x r) := by
  unfold State.requestArrives
  split
  · exact h.onUp x ⟨rfl, .inr ⟨rfl, List.prefix_append _ _⟩, fun hno => absurd hx hno, fun _ => id⟩
  · exact h.protocolErrorUp x

theorem crArrivesUp (h : s.Recedes hears crowded t) (x : UPort) (count : BitVec 7) :
    s.Recedes hears crowded (t.crArrivesUp x count) := by
  unfold State.crArrivesUp
  split
  · exact h.onUp x (.of_same rfl rfl rfl id)
  · exact h.protocolErrorUp x

theorem sendCr (h : s.Recedes hears crowded t) (x : UPort) : s.Recedes hears crowded (t.sendCr x) :=
  (h.emit _).onUp x (.of_same rfl rfl rfl id)

theorem sendPart (h : s.Recedes hears crowded t) (x : UPort) : s.Recedes hears crowded (t.sendPart x) := by
  unfold State.sendPart
  split
  · exact h
  · next hqueue => exact (h.emit _).onUp x (.of_same rfl rfl rfl fun hnil => by rw [State.emit_up, hqueue] at hnil; cases hnil)

theorem sendNotice (h : s.Recedes hears crowded t) (x : UPort) : s.Recedes hears crowded (t.sendNotice x) := by
  unfold State.sendNotice
  split
  · exact (h.onNotice _).sendPart x
  · exact ((h.emit _).onUp x (.of_same rfl rfl rfl id)).onNotice _

theorem repeatExpire (h : s.Recedes hears crowded t) : s.Recedes hears crowded t.repeatExpire := by
  unfold State.repeatExpire
  split
  · exact h.onNotice _
  · exact h

theorem advance (h : s.Recedes hears crowded t) : s.Recedes hears crowded t.advance := by
  unfold State.advance
  split
  · exact h
  · exact h.same rfl rfl rfl

/-! ### Management -/

theorem runControl (h : s.Recedes hears crowded t) (i : Fin 16) (v : Word) : s.Recedes hears crowded (t.runControl i v) := by
  unfold State.runControl
  split
  · exact h.onWindow i _
  · split
    · exact h.onWindow i _
    · exact h

theorem clearCounters (h : s.Recedes hears crowded t) : s.Recedes hears crowded t.clearCounters := by
  refine h.trans ⟨fun _ => .refl _, fun x => ?_, fun n => ?_⟩
  · rw [State.clearCounters, PerUp.get_map]
    exact .of_same rfl rfl rfl id
  · rw [State.clearCounters, PerDown.get_map]
    exact ⟨rfl, rfl, rfl, rfl, id⟩

/-- A downstream setting but the orphan limit. -/
theorem storeDown (h : s.Recedes hears crowded t) {n : DPort} {reg : DownReg} {v : Word} {r : State}
    (hreg : reg ≠ .orphanLimit) (hstore : t.storeDown n reg v = some r) : s.Recedes hears crowded r := by
  unfold State.storeDown at hstore
  split at hstore
  · obtain ⟨k, -, rfl⟩ := Option.map_eq_some_iff.mp hstore
    exact h.onDown n ⟨rfl, rfl, rfl, rfl, id⟩
  · exact absurd rfl hreg
  · obtain ⟨k, -, rfl⟩ := Option.map_eq_some_iff.mp hstore
    exact h.onDown n ⟨rfl, rfl, rfl, rfl, id⟩
  · obtain ⟨k, -, rfl⟩ := Option.map_eq_some_iff.mp hstore
    exact h.onDown n ⟨rfl, rfl, rfl, rfl, id⟩
  · obtain ⟨k, -, rfl⟩ := Option.map_eq_some_iff.mp hstore
    exact h.onDown n ⟨rfl, rfl, rfl, rfl, id⟩
  · cases hstore

theorem storeUp (h : s.Recedes hears crowded t) {x : UPort} {reg : UpReg} {v : Word} {r : State}
    (hstore : t.storeUp x reg v = some r) : s.Recedes hears crowded r := by
  unfold State.storeUp at hstore
  split at hstore
  · obtain ⟨a, -, rfl⟩ := Option.map_eq_some_iff.mp hstore
    exact h.onUp x (.of_same rfl rfl rfl id)
  · obtain ⟨k, -, rfl⟩ := Option.map_eq_some_iff.mp hstore
    exact h.onUp x (.of_same rfl rfl rfl id)
  · cases hstore

/-- Every setting but the orphan limit leaves the table and the heads as they are. -/
theorem store (h : s.Recedes hears crowded t) {reg : Reg} {v : Word} {r : State} (hreg : ∀ n, reg ≠ .down n .orphanLimit)
    (hstore : t.store reg v = some r) : s.Recedes hears crowded r := by
  cases reg with
  | up x reg => exact h.storeUp hstore
  | down n reg => exact h.storeDown (fun heq => hreg n (congrArg (Reg.down n) heq)) hstore
  | mgmtPermit | mgmtBaseLo | noticeAddrLo =>
    simp only [State.store, Option.ite_none_left_eq_some, Option.ite_none_right_eq_some, Option.some.injEq] at hstore
    obtain ⟨-, rfl⟩ := hstore
    exact h.same rfl rfl rfl
  | mgmtBaseHi | noticeAddrHi | enable | clear | noticeAck | matchUnit _ _ | release =>
    cases hstore
    exact h.same rfl rfl rfl
  | noticePort | noticeRepeat | combine | trigger | capMgmt | capDefault | postCount | threshold | mode | staging _ _ =>
    simp only [State.store, Option.map_eq_some_iff] at hstore
    obtain ⟨_, -, rfl⟩ := hstore
    exact h.same rfl rfl rfl
  | _ => simp [State.store] at hstore

theorem getD_store (h : s.Recedes hears crowded t) {reg : Reg} (hreg : ∀ n, reg ≠ .down n .orphanLimit) (v : Word) :
    s.Recedes hears crowded ((t.store reg v).getD t) := by
  cases hstore : t.store reg v with
  | none => exact h
  | some r => exact h.store hreg hstore

/-! ### Soft reset -/

theorem softQueue (h : s.Recedes hears crowded t) {x : UPort} (hx : (t.up.get x).ingress ≠ [] → hears x) :
    s.Recedes hears crowded (t.softQueue x) := by
  have hanswers : s.Recedes hears crowded ((t.up.get x).ingress.foldl (State.softAnswer x) t) := by
    by_cases hnil : (t.up.get x).ingress = []
    · rw [hnil]
      exact h
    · exact h.foldl (fun _ r hr => (hr.answer (hx hnil) r .unavailable).onUp x (.of_same rfl rfl rfl id)) _
  exact hanswers.onUp x (.of_no_head rfl rfl (fun _ => rfl) id)

theorem softValues (h : s.Recedes hears crowded t) : s.Recedes hears crowded t.softValues := by
  refine h.trans ⟨fun k => ?_, fun x => ?_, fun n => ?_⟩
  · have hzero : t.softValues.entry k = OttEntry.zero := by
      simp only [State.softValues, State.entry, Vector.getElem_replicate]
    rw [hzero]
    exact .of_free rfl (by rintro (h | h) <;> cases h)
  · rw [State.softValues, PerUp.get_map]
    exact .of_same rfl rfl rfl id
  · rw [State.softValues, PerDown.get_map]
    exact ⟨rfl, rfl, rfl, rfl, id⟩

end

end State.Recedes

end Sys2Proof.Machine
end

section
/-! PROOFS. What an invariant of the table has to withstand, and that it then holds after every step. -/

namespace Sys2Proof.Machine

-- One after another: checked side by side, the theorems exceed the memory limit of check.sh.
set_option Elab.async false

/-! ### Where the entries and the heads of the commands come from -/

/-- A live part finds its entry live, and on the port that it arrives on (R78). -/
theorem State.live_of_classify {s : State} {n : DPort} {tag : Tag} {k : Fin 128} (h : s.classify n tag = .live k) :
    (s.entry k).state.live = true ∧ (s.entry k).egress = n := by
  unfold State.classify at h
  dsimp only at h
  split at h
  · split at h
    · cases h
    · next hegress =>
      split at h
      · cases h
      · cases h
      · cases h
      · next hstate =>
        cases h
        exact ⟨by rw [hstate]; rfl, not_not.mp hegress⟩
      · next hstate =>
        cases h
        exact ⟨by rw [hstate]; rfl, not_not.mp hegress⟩
  · cases h

/-- The first item of a queue that matches the table stands for a PENDING entry (R76). -/
theorem State.pending_of_head {s : State} {n : DPort} {k : Fin 128} {data : List Byte} {rest : List EgressItem}
    (hitems : s.ItemsMatch) (hqueue : (s.down.get n).egress = .entry k data :: rest) : (s.entry k).state = .pending := by
  have hcount := hitems.1 n k
  rw [hqueue, List.countP_cons_of_pos (by simp [EgressItem.standsFor])] at hcount
  by_contra hne
  rw [if_neg fun h => hne h.1] at hcount
  cases hcount

theorem State.ingress_of_headOutcome {s : State} {x : UPort} {p : Request × HeadOutcome} (h : s.headOutcome x = some p) :
    (s.up.get x).ingress ≠ [] := fun hnil => by
  rw [State.headOutcome, State.undecodedHead, hnil] at h
  cases h

theorem State.forceDown_link (s : State) (n m : DPort) :
    ((s.forceDown n).down.get m).link = if m = n then .down else (s.down.get m).link := by
  unfold State.forceDown
  split
  · rw [State.emit_down, (s.linkDown_bereaves n).down, PerDown.get_modify]
    split <;> rfl
  · next hlink =>
    split
    · next hm =>
      rw [hm]
      cases hstate : (s.down.get n).link
      · rfl
      · contradiction
    · rfl

/-- Every downstream port is DOWN once soft reset has forced them (R187). -/
theorem State.forcedDown_link (s : State) (n : DPort) : ((DPort.all.foldl State.forceDown s).down.get n).link = .down := by
  have hfold (l : List DPort) (t : State) :
      ((l.foldl State.forceDown t).down.get n).link = if n ∈ l then .down else (t.down.get n).link := by
    induction l generalizing t with
    | nil => rfl
    | cons m l ih =>
      rw [List.foldl_cons, ih, State.forceDown_link]
      by_cases hm : n = m <;> simp [hm]
  rw [hfold, if_pos (DPort.mem_all n)]

/-! ### Invariants of the table -/

/-- An invariant that allows, for the ports given, as many orphans as their limit, until the test that follows (R106). -/
abbrev CrowdedInvariant := (DPort → Prop) → State → Prop

/-- Every port stays below its limit (R106). -/
def uncrowded : DPort → Prop := fun _ => False

/-- The port n may have reached its limit. -/
def crowdedAt (n : DPort) : DPort → Prop := fun m => m = n

/-- The ports that are left once n has been tested. -/
def testedAt (crowded : DPort → Prop) (n : DPort) : DPort → Prop := fun m => crowded m ∧ m ≠ n

/-- The record of a new decode (R61). -/
def Upstream.decoded (d : Decoded) (u : Upstream) : Upstream := { u with waiting := some d }

/-- The invariant withstands what recedes and each of the operations that do not. -/
structure Lasting (P : CrowdedInvariant) (hears : State → UPort → Prop) : Prop where
  linked    : ∀ {crowded s x}, P crowded s → (s.up.get x).link ≠ .down → hears s x
  queued    : ∀ {crowded s x}, P crowded s → (s.up.get x).ingress ≠ [] → hears s x
  requested : ∀ {crowded s k}, P crowded s → (s.entry k).state.live = true → hears s (s.entry k).src
  recedes   : ∀ {crowded s crowded' t}, P crowded s → s.Recedes (hears s) crowded' t → (∀ n, crowded n → crowded' n) →
    P crowded' t
  fence     : ∀ {crowded s} (n reason), P crowded s → P (testedAt crowded n) (s.fence n reason)
  passed    : ∀ {crowded s n}, P crowded s → s.orphanCount n < (s.down.get n).orphanLimit → P (testedAt crowded n) s
  linkDown  : ∀ {s n}, P uncrowded s → (s.down.get n).link = .up → P uncrowded (s.linkDown n)
  allocate  : ∀ {s}, P uncrowded s → P uncrowded s.allocate
  decoded   : ∀ {s x r d}, P uncrowded s → s.headOutcome x = some (r, .forward d) →
    P uncrowded (s.onUp x (Upstream.decoded d))
  limit     : ∀ {s n k}, P uncrowded s → 1 ≤ k → P (crowdedAt n) (s.onDown n fun d => { d with orphanLimit := k })
  unfence   : ∀ {s n}, P uncrowded s → P uncrowded (s.unfence n)
  clear     : ∀ {s}, P uncrowded s → (∀ n, (s.down.get n).link = .down) →
    P uncrowded { s with down := s.down.map Downstream.clearFence }
  plug      : ∀ {s x}, P uncrowded s → P uncrowded (s.upstreamLinkUp x)
  departed  : ∀ {s x}, P uncrowded s → P (fun _ => True) (s.departed x)
  plugDown  : ∀ {s n}, P uncrowded s → P uncrowded (s.downstreamLinkUp n)
  power     : ∀ {s msel}, s.up = (State.powerOn msel).up → s.down = (State.powerOn msel).down →
    s.ott = (State.powerOn msel).ott → P uncrowded s

/-- A command that runs while RESET_N is released. -/
theorem CrowdedInvariant.of_running {P : CrowdedInvariant} {f : State → State} {s t : State}
    (hf : ∀ s, P uncrowded s → P uncrowded (f s)) (h : P uncrowded s) (hexec : whileRunning s f = .next t) : P uncrowded t :=
  of_whileRunning hexec h (hf s h)

namespace Lasting

section
variable {P : CrowdedInvariant} {hears : State → UPort → Prop} (hP : Lasting P hears)
include hP

/-- What recedes, without a new orphan. -/
theorem of_recedes {crowded : DPort → Prop} {s t : State} (h : P crowded s) (hst : s.Recedes (hears s) crowded t) :
    P crowded t :=
  hP.recedes h hst fun _ => id

theorem mono {crowded crowded' : DPort → Prop} {s : State} (h : P crowded s) (hle : ∀ n, crowded n → crowded' n) :
    P crowded' s :=
  hP.recedes h (.refl s) hle

/-! ### The orphan limit test (R106) -/

theorem orphanTest {crowded : DPort → Prop} {s : State} (n : DPort) (h : P crowded s) :
    P (testedAt crowded n) (s.orphanTest n) := by
  unfold State.orphanTest
  split
  · exact hP.fence n _ h
  · next hlimit => exact hP.passed h (Nat.lt_of_not_le hlimit)

theorem orphanTests {crowded : DPort → Prop} {l : List DPort} {s : State} (h : P crowded s) :
    P (fun m => crowded m ∧ m ∉ l) (l.foldl State.orphanTest s) := by
  induction l generalizing crowded s with
  | nil => exact hP.mono h fun n hn => ⟨hn, List.not_mem_nil⟩
  | cons n l ih =>
    refine hP.mono (ih (hP.orphanTest n h)) fun m hm => ?_
    obtain ⟨⟨hcrowded, hne⟩, hl⟩ := hm
    exact ⟨hcrowded, List.not_mem_cons_of_ne_of_not_mem hne hl⟩

/-- A fence with its allocation event (R119). -/
theorem fenceEvent {s : State} (n : DPort) (reason : FenceReason) (h : P uncrowded s) :
    P uncrowded (s.fenceEvent n reason) := by
  unfold State.fenceEvent
  split
  · exact h
  · exact hP.allocate (hP.mono (hP.fence n reason h) fun _ hm => hm.1)

/-- The test of the one port that may have reached its limit, with its allocation event. -/
theorem orphanTestEvent {s : State} {n : DPort} (h : P (crowdedAt n) s) : P uncrowded (s.orphanTestEvent n) := by
  have hnone : ∀ m, testedAt (crowdedAt n) n m → uncrowded m := fun m hm => hm.2 hm.1
  have hfence : P uncrowded (s.fence n .orphans) := hP.mono (hP.fence n .orphans h) hnone
  unfold State.orphanTestEvent
  split
  · unfold State.fenceEvent
    split
    · next hfenced => rwa [State.fence_of_fenced hfenced] at hfence
    · exact hP.allocate hfence
  · next hlimit => exact hP.mono (hP.passed h (Nat.lt_of_not_le hlimit)) hnone

/-! ### Entries that end (R80 to R84, R98 to R101) -/

/-- A live entry ends as an orphan, and its port is tested (R80, R99, R106). -/
theorem retire_orphan {s : State} {k : Fin 128} (h : P uncrowded s) (hlive : (s.entry k).state.live = true) (status : Status) :
    P uncrowded (((s.retire k status).orphan k).orphanTestEvent (s.entry k).egress) := by
  have hbusy : (s.entry k).state ≠ .free := fun hfree => by rw [hfree] at hlive; cases hlive
  have hcrowded : crowdedAt (s.entry k).egress (s.entry k).egress := rfl
  exact hP.orphanTestEvent <| hP.recedes h
    ((State.Recedes.refl s).retire_orphan (hP.requested h hlive) hbusy hcrowded status) fun _ => False.elim

/-- A live entry ends and is released (R80, R101). -/
theorem retire_release {s : State} {k : Fin 128} (h : P uncrowded s) (hlive : (s.entry k).state.live = true) (status : Status) :
    P uncrowded ((s.retire k status).release k).allocate :=
  hP.allocate <| hP.of_recedes h (((State.Recedes.refl s).retire (hP.requested h hlive) status).release k)

theorem expireEntry {s : State} (k : Fin 128) (h : P uncrowded s) : P uncrowded (s.expireEntry k) := by
  unfold State.expireEntry
  split
  · next hstate =>
    have hdropped : P uncrowded (s.dropItem k) := hP.of_recedes h ((State.Recedes.refl s).dropItem k)
    exact hP.retire_release hdropped (show (s.entry k).state.live = true by rw [hstate]; rfl) .timeout
  · next hstate => exact hP.retire_orphan h (by rw [hstate]; rfl) .timeout
  · next hstate => exact hP.retire_orphan h (by rw [hstate]; rfl) .timeout
  · exact h
  · exact h

theorem expire {s : State} (k : Fin 128) (h : P uncrowded s) : P uncrowded (s.expire k) := by
  unfold State.expire
  split
  · exact hP.expireEntry k (hP.of_recedes h (((State.Recedes.refl s).countDown _ _).raise _))
  · exact h

theorem endAnswer {s : State} {n : DPort} {k : Fin 128} (h : P uncrowded s) (hlive : (s.entry k).state.live = true)
    (hn : (s.entry k).egress = n) (status : Status) (last : Bool) : P uncrowded (s.endAnswer n k status last) := by
  unfold State.endAnswer
  cases last with
  | true => exact hP.retire_release h hlive status
  | false => exact hn ▸ hP.retire_orphan h hlive status

theorem forwardPart {s : State} {k : Fin 128} (h : P uncrowded s) (hlive : (s.entry k).state.live = true) (p : Part) :
    P uncrowded (s.forwardPart k p) := by
  refine hP.expire k (hP.of_recedes h (((State.Recedes.refl s).placePart (hP.requested h hlive) _).onEntry k ?_))
  rw [State.placePart_entry]
  exact .of_live hlive rfl rfl rfl rfl id

theorem forwardLast {s : State} {k : Fin 128} (h : P uncrowded s) (hlive : (s.entry k).state.live = true) (p : Part) :
    P uncrowded (s.forwardLast k p) :=
  hP.allocate <| hP.of_recedes h <|
    ((((State.Recedes.refl s).placePart (hP.requested h hlive) _).onEntry k
      (.of_same rfl rfl rfl rfl id)).complete k .ok).release k

/-! ### Arrivals -/

theorem livePart {s : State} {n : DPort} {k : Fin 128} (h : P uncrowded s) (hlive : (s.entry k).state.live = true)
    (hn : (s.entry k).egress = n) (p : Part) : P uncrowded (s.livePart n k p) := by
  unfold State.livePart
  split
  · exact hP.endAnswer h hlive hn _ _
  · split
    · split
      · exact hP.forwardLast h hlive p
      · exact hP.forwardPart h hlive p
    · exact hP.endAnswer (hP.of_recedes h ((State.Recedes.refl s).countDown n _)) hlive hn _ _

theorem latePart {s : State} (n : DPort) (k : Fin 128) (last : Bool) (h : P uncrowded s) :
    P uncrowded (s.latePart n k last) := by
  have hcounted := (State.Recedes.refl (hears := hears s) (crowded := uncrowded) s).countDown n
    fun c => { c with late := satInc c.late }
  unfold State.latePart
  dsimp only
  split
  · exact hP.allocate (hP.of_recedes h (hcounted.release k))
  · exact hP.of_recedes h hcounted

theorem partArrives {s : State} (n : DPort) (p : Part) (h : P uncrowded s) : P uncrowded (s.partArrives n p) := by
  unfold State.partArrives
  split
  · exact hP.of_recedes h (((State.Recedes.refl s).countDown n _).raise _)
  · exact hP.latePart n _ _ h
  · next k hclass =>
    obtain ⟨hlive, hn⟩ := State.live_of_classify hclass
    exact hP.livePart h hlive hn p

theorem crArrivesDown {s : State} (n : DPort) (count : BitVec 7) (h : P uncrowded s) :
    P uncrowded (s.crArrivesDown n count) := by
  have htaken : P uncrowded (s.onDown n fun d => { d with credits := d.credits + count.toNat }) :=
    hP.of_recedes h ((State.Recedes.refl s).onDown n ⟨rfl, rfl, rfl, rfl, id⟩)
  have hignored : P uncrowded (s.countDown n fun c => { c with crIgnored := satInc c.crIgnored }) :=
    hP.of_recedes h ((State.Recedes.refl s).countDown n _)
  unfold State.crArrivesDown
  dsimp only
  split
  · split
    · exact htaken
    · exact hignored
  · split
    · exact htaken
    · exact hP.fenceEvent n _ hignored

theorem countDamaged {s : State} (p : Port) (h : P uncrowded s) : P uncrowded (s.countDamaged p) := by
  cases p with
  | up x =>
    unfold State.countDamaged
    exact hP.of_recedes h ((State.Recedes.refl s).countUp x _)
  | down n =>
    have hcounted : P uncrowded ((s.onDown n fun d =>
        { d with
          badRun := satInc d.badRun
          goodRun := 0
          counters := { d.counters with damaged := satInc d.counters.damaged } }).degradeTest n) :=
      hP.of_recedes h (((State.Recedes.refl s).onDown n ⟨rfl, rfl, rfl, rfl, id⟩).degradeTest n)
    unfold State.countDamaged State.damageTest
    dsimp only
    split
    · exact hP.fenceEvent n _ hcounted
    · exact hcounted

theorem receive {s : State} {p : Port} (h : P uncrowded s) (hlink : s.linkOf p ≠ .down) (m : Message) :
    P uncrowded (s.receive p m) := by
  have hgood (n : DPort) : P uncrowded (s.countGood n) := hP.of_recedes h ((State.Recedes.refl s).countGood n)
  unfold State.receive
  split
  · exact hP.of_recedes h ((State.Recedes.refl s).requestArrives (hP.linked h hlink) _)
  · exact hP.of_recedes h ((State.Recedes.refl s).crArrivesUp _ _)
  · exact hP.of_recedes h ((State.Recedes.refl s).protocolErrorUp _)
  · exact hP.partArrives _ _ (hgood _)
  · exact hP.crArrivesDown _ _ (hgood _)
  · exact hP.of_recedes (hgood _) ((State.Recedes.refl _).protocolErrorDown _)

theorem arrive {s : State} (p : Port) (m : Message) (h : P uncrowded s) : P uncrowded (s.arrive p m) := by
  unfold State.arrive
  split
  · exact h
  · next hlink =>
    split
    · exact hP.receive h hlink m
    · exact hP.countDamaged p h

theorem arriveDamaged {s : State} (p : Port) (delivered : Option (List Byte)) (h : P uncrowded s) :
    P uncrowded (s.arriveDamaged p delivered) := by
  unfold State.arriveDamaged
  split
  · exact h
  · split
    · exact hP.arrive p _ h
    · exact hP.countDamaged p h

/-! ### Links and transmitters -/

theorem upstreamLinkDown {s : State} (x : UPort) (h : P uncrowded s) : P uncrowded (s.upstreamLinkDown x) := by
  by_cases hlink : (s.up.get x).link = .up
  · rw [State.upstreamLinkDown_eq hlink]
    exact hP.allocate (hP.mono (hP.orphanTests (hP.departed h)) fun n hn => hn.2 (DPort.mem_all n))
  · unfold State.upstreamLinkDown
    split
    · exact h
    · next hdown => cases hstate : (s.up.get x).link <;> contradiction

theorem downstreamLinkDown {s : State} (n : DPort) (h : P uncrowded s) : P uncrowded (s.downstreamLinkDown n) := by
  unfold State.downstreamLinkDown
  split
  · exact h
  · next hlink =>
    refine hP.allocate (hP.linkDown h ?_)
    cases hstate : (s.down.get n).link
    · contradiction
    · rfl

theorem forceDown {s : State} (n : DPort) (h : P uncrowded s) : P uncrowded (s.forceDown n) := by
  unfold State.forceDown
  split
  · next hlink => exact hP.of_recedes (hP.linkDown h hlink) ((State.Recedes.refl _).emit _)
  · exact h

/-- The head item of a queue that matches the table stands for a PENDING entry, which its issue keeps live (R76, R77). -/
theorem issueHead {s : State} (n : DPort) (hitems : s.ItemsMatch) (h : P uncrowded s) : P uncrowded (s.issueHead n) := by
  unfold State.issueHead
  split
  · exact h
  · next item rest hqueue =>
    split
    · have htaken : s.Recedes (hears s) uncrowded ((s.emit (.message (.down n) (.request (s.requestOfItem item)))).onDown n
          fun d =>
            { d with
              egress := rest
              credits := d.credits - 1
              counters := { d.counters with requestsSent := satInc d.counters.requestsSent } }) :=
        ((State.Recedes.refl s).emit _).onDown n ⟨rfl, rfl, rfl, rfl, fun hnil => by
          rw [State.emit_down, hqueue] at hnil
          cases hnil⟩
      refine hP.allocate (hP.of_recedes h (htaken.issueEntry fun k data hitem => ?_))
      have hpending : (s.entry k).state = .pending := State.pending_of_head hitems (hitem ▸ hqueue)
      exact congrArg EntryState.live hpending
    · exact h

/-! ### Dispatch -/

theorem runCommand {s : State} (c : Command) (port : BitVec 8) (h : P uncrowded s) : P uncrowded (s.runCommand c port) := by
  unfold State.runCommand
  split
  · exact hP.fenceEvent _ _ h
  · exact hP.unfence h
  · unfold State.retrain
    split
    · exact hP.allocate (hP.forceDown _ h)
    · exact h
  · exact h
  · exact h
  · exact h
  · exact hP.of_recedes h (State.Recedes.refl s).clearCounters
  · exact hP.of_recedes h ((State.Recedes.refl s).onCapture _)
  · exact hP.of_recedes h ((State.Recedes.refl s).onCapture _)
  · exact hP.of_recedes h ((State.Recedes.refl s).onCapture _)
  · exact h

theorem writeCommand {s : State} (v : Word) (h : P uncrowded s) : P uncrowded (s.writeCommand v) := by
  have hrecorded : P uncrowded (s.recordCommand v) := hP.of_recedes h ((State.Recedes.refl s).same rfl rfl rfl)
  unfold State.writeCommand
  split
  · exact hP.runCommand _ _ hrecorded
  · exact hrecorded

theorem access {s : State} (reg : Reg) (v : Word) (h : P uncrowded s) : P uncrowded (s.access reg v) := by
  unfold State.access
  split
  · exact hP.of_recedes h ((State.Recedes.refl s).runControl _ v)
  · exact hP.writeCommand v h
  · next x =>
    cases hstore : s.store (.up x .reserve) v with
    | none => exact h
    | some t => exact hP.allocate (hP.of_recedes h ((State.Recedes.refl s).store (reg := .up x .reserve) (fun _ => nofun) hstore))
  · next n =>
    cases hstore : s.store (.down n .orphanLimit) v with
    | none => exact h
    | some t =>
      obtain ⟨k, hrange, rfl⟩ := Option.map_eq_some_iff.mp hstore
      obtain ⟨hlow, -, rfl⟩ := inRange_eq_some_iff.mp hrange
      exact hP.orphanTestEvent (hP.limit h hlow)
  · next hreg => exact hP.of_recedes h ((State.Recedes.refl s).getD_store hreg v)

theorem softDownstream {s : State} (h : P uncrowded s) : P uncrowded s.softDownstream := by
  have hforced (l : List DPort) {t : State} (ht : P uncrowded t) : P uncrowded (l.foldl State.forceDown t) := by
    induction l generalizing t with
    | nil => exact ht
    | cons n l ih => exact ih (hP.forceDown n ht)
  exact hP.clear (hforced DPort.all h) (State.forcedDown_link s)

theorem softReset {s : State} {x : UPort} (h : P uncrowded s) (hqueue : (s.up.get x).ingress ≠ []) (r : Request) (v : Word) :
    P uncrowded (s.softReset x r v) := by
  have hpopped : P uncrowded (((s.recordCommand v).answer x r .ok).popHead x) :=
    hP.of_recedes h ((State.Recedes.answer (t := s.recordCommand v) ((State.Recedes.refl s).same rfl rfl rfl)
      (hP.queued h hqueue) r .ok).popHead x)
  have hdown := hP.softDownstream hpopped
  have hfirst := hP.of_recedes hdown ((State.Recedes.refl _).softQueue (x := .u0) (hP.queued hdown))
  have hboth := hP.of_recedes hfirst ((State.Recedes.refl _).softQueue (x := .u1) (hP.queued hfirst))
  exact hP.of_recedes hboth (((State.Recedes.refl _).softValues.countUp x _).handRequest _)

theorem performWrite {s : State} {x : UPort} (h : P uncrowded s) (hqueue : (s.up.get x).ingress ≠ []) (r : Request) (reg : Reg)
    (v : Word) : P uncrowded (s.performWrite x r reg v) := by
  have haccessed (status : Status) : P uncrowded ((s.answer x r status).access reg v) :=
    hP.access reg v (hP.of_recedes h ((State.Recedes.refl s).answer (hP.queued h hqueue) r status))
  unfold State.performWrite
  split
  · exact hP.softReset h hqueue r v
  · split
    · exact hP.of_recedes (haccessed _) ((State.Recedes.refl _).resolveHead x r _ _ _ _)
    · exact hP.of_recedes (haccessed _) ((State.Recedes.refl _).resolveHead x r _ _ _ _)

theorem zeroFill {s : State} {x : UPort} (h : P uncrowded s) (hqueue : (s.up.get x).ingress ≠ []) (r : Request) :
    P uncrowded (s.zeroFill x r) := by
  have hx := hP.queued h hqueue
  unfold State.zeroFill
  refine hP.of_recedes h (State.Recedes.resolveHead ?_ x r _ _ _ _)
  split
  · exact (State.Recedes.refl s).placeParts hx _
  · exact (State.Recedes.refl s).placePart hx _
  · exact .refl s

theorem resolveOutcome {s : State} {x : UPort} {r : Request} {o : HeadOutcome} (h : P uncrowded s)
    (hhead : s.headOutcome x = some (r, o)) : P uncrowded (s.resolveOutcome x r o) := by
  have hqueue : (s.up.get x).ingress ≠ [] := State.ingress_of_headOutcome hhead
  have hx := hP.queued h hqueue
  unfold State.resolveOutcome
  split
  · exact hP.of_recedes h ((State.Recedes.refl s).resolveHead x r _ _ _ _)
  · exact hP.of_recedes h ((State.Recedes.refl s).refuseHead hx r _ _ _)
  · exact hP.of_recedes h ((State.Recedes.refl s).refuseHead hx r _ _ _)
  · exact hP.of_recedes h (((State.Recedes.refl s).placePart hx _).resolveHead x r _ _ _ _)
  · exact hP.performWrite h hqueue r _ _
  · exact hP.of_recedes h (((State.Recedes.refl s).onWindow _ _).refuseHead hx r _ _ _)
  · exact hP.of_recedes h (((State.Recedes.refl s).onWindow _ _).refuseHead hx r _ _ _)
  · exact hP.allocate (hP.of_recedes (hP.decoded h hhead) ((State.Recedes.refl _).same rfl rfl rfl))
  · exact hP.of_recedes h ((State.Recedes.refl s).refuseHead hx r _ _ _)
  · exact hP.zeroFill h hqueue r

theorem dispatch {s : State} (x : UPort) (h : P uncrowded s) : P uncrowded (s.dispatch x) := by
  unfold State.dispatch
  split
  · next hhead => exact hP.resolveOutcome h hhead
  · exact h

theorem forwardHead {s : State} (x : UPort) (h : P uncrowded s) : P uncrowded (s.forwardHead x) := by
  unfold State.forwardHead
  split
  · next hhead => exact hP.resolveOutcome h hhead
  · exact h
  · split
    · exact hP.allocate h
    · exact h

theorem dispatchWrite {s : State} (x : UPort) (row : Reg → Word → Bool) (h : P uncrowded s) :
    P uncrowded (s.dispatchWrite x row) := by
  unfold State.dispatchWrite
  split
  · next hhead =>
    split
    · exact hP.resolveOutcome h hhead
    · exact h
  · exact h

/-! ### The commands -/

theorem of_write {s t : State} {x : UPort} {row : Reg → Word → Bool} (h : P uncrowded s)
    (hexec : whileRunning s (fun s => s.dispatchWrite x row) = .next t) : P uncrowded t :=
  CrowdedInvariant.of_running (fun _ => hP.dispatchWrite x row) h hexec

theorem of_chosen {s t : State} {x : UPort} {c : Candidate} {f : State → State}
    (hf : ∀ s : State, s.Recedes (hears s) uncrowded (f s)) (h : P uncrowded s)
    (hexec : whileRunning s (fun s => if s.arbiterChoice x = some c then f s else s) = .next t) : P uncrowded t := by
  refine of_whileRunning hexec h ?_
  split
  · exact hP.of_recedes h (hf s)
  · exact h

theorem exec {c : Instr} {s t : State} (hexec : Sys2Proof.Machine.exec c s = .next t) (hitems : s.ItemsMatch)
    (h : P uncrowded s) : P uncrowded t := by
  cases c with
  | powerOnReset msel =>
    cases hexec
    exact hP.power (msel := msel) rfl rfl rfl
  | resetNAsserted =>
    cases hexec
    exact hP.power (msel := s.strap) rfl rfl rfl
  | upstreamLinkUp x => exact CrowdedInvariant.of_running (fun _ => hP.plug (x := x)) h hexec
  | upstreamLinkDown x => exact CrowdedInvariant.of_running (fun _ => hP.upstreamLinkDown x) h hexec
  | downstreamLinkUp n => exact CrowdedInvariant.of_running (fun _ => hP.plugDown (n := n)) h hexec
  | downstreamLinkDown n => exact CrowdedInvariant.of_running (fun _ => hP.downstreamLinkDown n) h hexec
  | requestArrival _ _ | upstreamCrArrival _ _ | partArrival _ _ | downstreamCrArrival _ _ =>
    exact CrowdedInvariant.of_running (fun _ => hP.arrive _ _) h hexec
  | damagedMessageArrival p delivered => exact CrowdedInvariant.of_running (fun _ => hP.arriveDamaged p delivered) h hexec
  | misdirectedMessageArrival m => cases m <;> exact CrowdedInvariant.of_running (fun _ => hP.arrive _ _) h hexec
  | dispatch x => exact CrowdedInvariant.of_running (fun _ => hP.dispatch x) h hexec
  | forwarding x => exact CrowdedInvariant.of_running (fun _ => hP.forwardHead x) h hexec
  | issue n => exact of_whileRunning (f := fun s => s.issueHead n) hexec h (hP.issueHead n hitems h)
  | crTransmit x => exact hP.of_chosen (fun s => (State.Recedes.refl s).sendCr x) h hexec
  | responsePartTransmit x => exact hP.of_chosen (fun s => (State.Recedes.refl s).sendPart x) h hexec
  | noticeTransmit x => exact hP.of_chosen (fun s => (State.Recedes.refl s).sendNotice x) h hexec
  | expiry k => exact CrowdedInvariant.of_running (fun _ => hP.expire k) h hexec
  | repeatExpiry => exact CrowdedInvariant.of_running (fun s h => hP.of_recedes h (State.Recedes.refl s).repeatExpire) h hexec
  | timeAdvance => exact CrowdedInvariant.of_running (fun s h => hP.of_recedes h (State.Recedes.refl s).advance) h hexec
  | softReset _ | fenceCommand _ _ | unfence _ _ | retrain _ _ | clearCounters _ | captureArm _ | captureStop _
  | captureClear _ | unknownCommand _ _ | commit _ _ | disable _ _ | mgmtBaseLoWrite _ _ | reserveWrite _ _ _
  | orphanLimitWrite _ _ _ | enableWrite _ _ | clearWrite _ _ | noticeAck _ _ | captureRelease _ | settingWrite _ _ _ =>
    exact hP.of_write h hexec

/-- An invariant that lasts is kept by every step from a state whose items match (R76). -/
theorem step {s t : State} (hstep : Sys2Proof.Machine.step s = .next t) (hitems : s.ItemsMatch) (h : P uncrowded s) :
    P uncrowded t := by
  unfold Sys2Proof.Machine.step at hstep
  split at hstep
  · cases hstep
    exact h
  · exact hP.exec hstep hitems (hP.of_recedes h ((State.Recedes.refl s).same rfl rfl rfl))

end

end Lasting

end Sys2Proof.Machine
end

section
/-! PROOFS. Source tags stay unique among the live entries of a port (R49): a tag of a waiting head is not live, so that a grant
makes no second entry of it. -/

namespace Sys2Proof.Machine

-- One after another: checked side by side, the theorems exceed the memory limit of check.sh.
set_option Elab.async false

/-! ### What brings no new tag -/

/-- No entry goes live, and no head starts to wait. -/
structure State.Sheds (s t : State) : Prop where
  live : ∀ k, (t.entry k).state.live = true →
    (s.entry k).state.live = true ∧ (t.entry k).src = (s.entry k).src ∧ (t.entry k).srcTag = (s.entry k).srcTag
  head : ∀ x, (t.up.get x).waiting = none
    ∨ (t.up.get x).waiting = (s.up.get x).waiting ∧ (s.up.get x).ingress <+: (t.up.get x).ingress

theorem State.Recedes.sheds {hears : UPort → Prop} {crowded : DPort → Prop} {s t : State} (h : s.Recedes hears crowded t) :
    s.Sheds t :=
  ⟨fun k => (h.entry k).live, fun x => (h.up x).waiting⟩

theorem State.Sheds.of_same {s t : State} (hup : t.up = s.up) (hott : t.ott = s.ott) : s.Sheds t :=
  ⟨fun k hk => by rw [State.entry_congr hott] at hk ⊢; exact ⟨hk, rfl, rfl⟩, fun x => .inr (by
    rw [hup]
    exact ⟨rfl, List.prefix_rfl⟩)⟩

/-- Heads that are left alone or lost, and entries that end or stay. -/
theorem State.Sheds.of_head {s t : State} (hentry : ∀ k, (t.entry k).state.live = true → t.entry k = s.entry k)
    (hhead : ∀ x, (t.up.get x).waiting = none ∨ (t.up.get x).head = (s.up.get x).head) : s.Sheds t := by
  refine ⟨fun k hk => ?_, fun x => (hhead x).imp_right fun hsame => ?_⟩
  · have hsame := hentry k hk
    rw [hsame] at hk ⊢
    exact ⟨hk, rfl, rfl⟩
  · have hingress : (t.up.get x).ingress = (s.up.get x).ingress := congrArg Head.ingress hsame
    rw [hingress]
    exact ⟨congrArg Head.waiting hsame, List.prefix_rfl⟩

theorem State.Bereaves.sheds {s t : State} {n : DPort} {port : Downstream → Downstream} {end_ : OttEntry → OttEntry}
    (h : s.Bereaves t n port end_) (hend : ∀ e, (end_ e).state.live = true → end_ e = e) : s.Sheds t := by
  refine .of_head (fun k hk => ?_) fun x => ?_
  · rw [h.entry] at hk ⊢
    exact hend _ hk
  · rw [h.up, s.bereft_head n x]
    split
    · next hwaits =>
      have hhead := s.bereft_head n x
      rw [if_pos hwaits] at hhead
      exact .inl (congrArg Head.waiting hhead)
    · exact .inr rfl

theorem OttEntry.cutOff_live {n : DPort} {e : OttEntry} (h : (e.cutOff n).state.live = true) : e.cutOff n = e := by
  unfold OttEntry.cutOff at h ⊢
  split
  · rfl
  · next hn =>
    rw [if_neg hn] at h
    cases hstate : e.state with
    | free => rfl
    | pending | issued | streaming | orphan =>
      rw [hstate] at h
      cases h

theorem OttEntry.departed_live {x : UPort} {e : OttEntry} (h : (e.departed x).state.live = true) : e.departed x = e := by
  by_cases hsrc : e.src = x
  · rw [OttEntry.departed_not_live hsrc] at h
    cases h
  · exact OttEntry.departed_of_ne hsrc

theorem State.fence_sheds (s : State) (n : DPort) (reason : FenceReason) : s.Sheds (s.fence n reason) := by
  cases hfenced : (s.down.get n).fenced with
  | true =>
    rw [State.fence_of_fenced hfenced]
    exact .of_same rfl rfl
  | false => exact (State.fence_bereaves hfenced reason).sheds fun _ => OttEntry.fencedOff_live

theorem State.linkDown_sheds (s : State) (n : DPort) : s.Sheds (s.linkDown n) :=
  (s.linkDown_bereaves n).sheds fun _ => OttEntry.cutOff_live

theorem State.departed_sheds (s : State) (x : UPort) : s.Sheds (s.departed x) := by
  refine .of_head (fun k hk => ?_) fun y => ?_
  · rw [State.departed_entry] at hk ⊢
    exact OttEntry.departed_live hk
  · rw [(s.departed_only x).1, PerUp.get_modify]
    split
    · exact .inl rfl
    · exact .inr rfl

theorem State.waitingHead_eq_some_iff {s : State} {x : UPort} {r : Request} {d : Decoded} :
    s.waitingHead x = some (r, d) ↔ ∃ tail, (s.up.get x).ingress = r :: tail ∧ (s.up.get x).waiting = some d := by
  unfold State.waitingHead
  cases (s.up.get x).ingress <;> cases (s.up.get x).waiting <;> simp

theorem State.undecodedHead_eq_some_iff {s : State} {x : UPort} {r : Request} :
    s.undecodedHead x = some r ↔ ∃ tail, (s.up.get x).ingress = r :: tail ∧ (s.up.get x).waiting = none := by
  unfold State.undecodedHead
  cases (s.up.get x).ingress <;> cases (s.up.get x).waiting <;> simp

/-! ### Unique tags -/

namespace State.TagsUnique

variable {s t : State}

/-- A head that waits after a step that brings no new tag waited before it. -/
theorem waitingHead_of_sheds (h : s.TagsUnique) (hst : s.Sheds t) {x : UPort} {p : Request × Decoded}
    (hhead : t.waitingHead x = some p) : s.waitingHead x = some p := by
  obtain ⟨-, -, hkept⟩ := h
  obtain ⟨r, d⟩ := p
  obtain ⟨tail, hqueue, hwaiting⟩ := State.waitingHead_eq_some_iff.mp hhead
  rcases hst.head x with hnone | ⟨hsame, hprefix⟩
  · rw [hnone] at hwaiting
    cases hwaiting
  · rw [hsame] at hwaiting
    cases hingress : (s.up.get x).ingress with
    | nil => exact absurd hingress (hkept x (by rw [hwaiting]; rfl))
    | cons r' tail' =>
      rw [hingress, hqueue] at hprefix
      obtain ⟨rfl, -⟩ := List.cons_prefix_cons.mp hprefix
      exact State.waitingHead_eq_some_iff.mpr ⟨tail', hingress, hwaiting⟩

theorem sheds (h : s.TagsUnique) (hst : s.Sheds t) : t.TagsUnique := by
  obtain ⟨hunique, htags, hkept⟩ := id h
  refine ⟨fun k j hk hj hsrc htag => ?_, fun x r d hhead hkind => ?_, fun x hwaiting => ?_⟩
  · obtain ⟨hk', hksrc, hktag⟩ := hst.live k hk
    obtain ⟨hj', hjsrc, hjtag⟩ := hst.live j hj
    exact hunique k j hk' hj' (by rw [← hksrc, ← hjsrc, hsrc]) (by rw [← hktag, ← hjtag, htag])
  · have hfresh := State.tagLive_eq_false_iff.mp (htags x r d (h.waitingHead_of_sheds hst hhead) hkind)
    refine State.tagLive_eq_false_iff.mpr fun k hk hsrc => ?_
    obtain ⟨hk', hksrc, hktag⟩ := hst.live k hk
    rw [hktag]
    exact hfresh k hk' (hksrc ▸ hsrc)
  · rcases hst.head x with hnone | ⟨hsame, hprefix⟩
    · rw [hnone] at hwaiting
      cases hwaiting
    · intro hnil
      rw [hnil, List.prefix_nil] at hprefix
      exact hkept x (hsame ▸ hwaiting) hprefix

/-- A head that is granted an entry has a fresh tag (R49). -/
theorem fresh_of_granted (h : s.TagsUnique) {x : UPort} {k j : Fin 128} {e : OttEntry} (hgrants : s.Grants x j e)
    (hk : (s.entry k).state.live = true) (hsrc : (s.entry k).src = e.src) : (s.entry k).srcTag ≠ e.srcTag := by
  obtain ⟨-, htags, -⟩ := h
  obtain ⟨r, d, kind, hhead, hkind, rfl⟩ := hgrants
  have hanswered : r.kind ≠ .pw := fun hpw => by rw [hpw] at hkind; cases hkind
  exact State.tagLive_eq_false_iff.mp (htags x r d hhead hanswered) k hk hsrc

/-- An allocation event makes live only entries of heads that wait (R73, R74). -/
theorem allocate (h : s.TagsUnique) : s.allocate.TagsUnique := by
  obtain ⟨tickets, halloc⟩ := s.allocate_allocates
  obtain ⟨hunique, htags, hkept⟩ := id h
  have hcases (k : Fin 128) : s.allocate.entry k = s.entry k
      ∨ ∃ x, tickets x = some (.entry k) ∧ s.Grants x k (s.allocate.entry k) := by
    by_cases htaken : ∃ x, tickets x = some (.entry k)
    · obtain ⟨x, hx⟩ := htaken
      exact .inr ⟨x, hx, (halloc.grants x k hx).2⟩
    · exact .inl (halloc.entry k fun x hx => htaken ⟨x, hx⟩)
  have hsrcs {x : UPort} {k : Fin 128} {e : OttEntry} (hgrants : s.Grants x k e) : e.src = x := by
    obtain ⟨_, _, _, _, _, rfl⟩ := hgrants
    rfl
  have hheads {x : UPort} (hwaits : (s.allocate.up.get x).waiting.isSome = true) :
      tickets x = none ∧ s.allocate.up.get x = s.up.get x := by
    have hup := halloc.up x
    cases hticket : tickets x with
    | none => exact ⟨rfl, by rw [hup, hticket]; rfl⟩
    | some ticket =>
      rw [hup, hticket] at hwaits
      cases hwaits
  refine ⟨fun k j hk hj hsrc htag => ?_, fun x r d hhead hkind => ?_, fun x hwaiting => ?_⟩
  · rcases hcases k with hkeep | ⟨x, hx, hgrants⟩ <;> rcases hcases j with hkeep' | ⟨y, hy, hgrants'⟩
    · rw [hkeep] at hk hsrc htag
      rw [hkeep'] at hj hsrc htag
      exact hunique k j hk hj hsrc htag
    · rw [hkeep] at hk hsrc htag
      exact absurd htag (h.fresh_of_granted hgrants' hk hsrc)
    · rw [hkeep'] at hj hsrc htag
      exact absurd htag.symm (h.fresh_of_granted hgrants hj hsrc.symm)
    · have hxy : x = y := by rw [← hsrcs hgrants, ← hsrcs hgrants', hsrc]
      rw [hxy, hy] at hx
      cases hx
      rfl
  · obtain ⟨hticket, hsame⟩ := hheads (x := x) (by
      obtain ⟨_, _, hwaiting⟩ := State.waitingHead_eq_some_iff.mp hhead
      rw [hwaiting]
      rfl)
    rw [State.waitingHead_of_get hsame] at hhead
    refine State.tagLive_eq_false_iff.mpr fun k hk hsrc => ?_
    rcases hcases k with hkeep | ⟨y, hy, hgrants⟩
    · rw [hkeep] at hk hsrc ⊢
      exact State.tagLive_eq_false_iff.mp (htags x r d hhead hkind) k hk hsrc
    · rw [← hsrc, hsrcs hgrants, hy] at hticket
      cases hticket
  · obtain ⟨-, hsame⟩ := hheads hwaiting
    rw [hsame] at hwaiting ⊢
    exact hkept x hwaiting

/-- A head that starts to wait has passed the test of its tag (R49, R61). -/
theorem decoded (h : s.TagsUnique) {x : UPort} {r : Request} {d : Decoded} (hhead : s.headOutcome x = some (r, .forward d)) :
    (s.onUp x (Upstream.decoded d)).TagsUnique := by
  obtain ⟨hunique, htags, hkept⟩ := h
  obtain ⟨hundecoded, hdecode⟩ := State.headOutcome_eq_some_iff.mp hhead
  obtain ⟨tail, hqueue, -⟩ := State.undecodedHead_eq_some_iff.mp hundecoded
  have hfresh : ¬ (r.kind ≠ .pw ∧ s.tagLive x r.tag = true) := fun hdup => by
    rw [State.decodeHead, if_pos hdup] at hdecode
    cases hdecode
  refine ⟨hunique, fun y r' d' hwaits hkind => ?_, fun y hwaiting => ?_⟩
  · change s.tagLive y r'.tag = false
    by_cases hy : y = x
    · subst hy
      obtain ⟨tail', hqueue', -⟩ := State.waitingHead_eq_some_iff.mp hwaits
      rw [State.onUp_up, PerUp.get_modify_self] at hqueue'
      obtain ⟨rfl, -⟩ : r' = r ∧ tail' = tail := List.cons.inj (hqueue'.symm.trans hqueue)
      exact Bool.eq_false_iff.mpr fun hlive => hfresh ⟨hkind, hlive⟩
    · have hget : (s.onUp x (Upstream.decoded d)).up.get y = s.up.get y := by
        rw [State.onUp_up, PerUp.get_modify, if_neg hy]
      rw [State.waitingHead_of_get hget] at hwaits
      exact htags y r' d' hwaits hkind
  · rw [State.onUp_up, PerUp.get_modify] at hwaiting ⊢
    split
    · next hy =>
      rw [hy]
      exact fun hnil => absurd (hqueue.symm.trans hnil) (List.cons_ne_nil _ _)
    · next hy =>
      rw [if_neg hy] at hwaiting
      exact hkept y hwaiting

theorem upstreamLinkUp (h : s.TagsUnique) (x : UPort) : (s.upstreamLinkUp x).TagsUnique := by
  unfold State.upstreamLinkUp
  split
  · exact h
  · refine h.sheds (.of_head (fun _ _ => rfl) fun y => ?_)
    rw [State.raise_up, State.onUp_up, PerUp.get_modify]
    split
    · exact .inl rfl
    · exact .inr rfl

theorem downstreamLinkUp (h : s.TagsUnique) (n : DPort) : (s.downstreamLinkUp n).TagsUnique := by
  unfold State.downstreamLinkUp
  split
  · exact h
  · exact h.sheds (.of_same rfl rfl)

theorem unfence (h : s.TagsUnique) (n : DPort) : (s.unfence n).TagsUnique := by
  unfold State.unfence
  split
  · exact h.sheds (.of_same rfl rfl)
  · exact h

/-- At power-on no entry is live and no head waits (R190). -/
theorem of_powerOn {msel : BitVec 4} (hup : s.up = (State.powerOn msel).up) (hott : s.ott = (State.powerOn msel).ott) :
    s.TagsUnique := by
  have hentry (k : Fin 128) : (s.entry k).state = .free := by
    rw [State.entry, hott, State.powerOn, Vector.getElem_replicate]
    rfl
  have hwaiting (x : UPort) : (s.up.get x).waiting = none := by
    rw [hup]
    cases x <;> rfl
  refine ⟨fun k _ hk => ?_, fun x r d hhead => ?_, fun x hwaits => ?_⟩
  · rw [hentry] at hk
    cases hk
  · obtain ⟨_, _, hwaits⟩ := State.waitingHead_eq_some_iff.mp hhead
    rw [hwaiting] at hwaits
    cases hwaits
  · rw [hwaiting] at hwaits
    cases hwaits

end State.TagsUnique

/-- Unique tags ask nothing of the ports. -/
theorem tagsUnique_lasting : Lasting (fun _ s => s.TagsUnique) fun _ _ => True where
  linked _ _ := trivial
  queued _ _ := trivial
  requested _ _ := trivial
  recedes h hst _ := h.sheds hst.sheds
  fence n reason h := h.sheds (State.fence_sheds _ n reason)
  passed h _ := h
  linkDown h _ := h.sheds (State.linkDown_sheds _ _)
  allocate h := h.allocate
  decoded h hhead := h.decoded hhead
  limit h _ := h.sheds (.of_same rfl rfl)
  unfence h := h.unfence _
  clear h _ := h.sheds (.of_same rfl rfl)
  plug h := h.upstreamLinkUp _
  departed h := h.sheds (State.departed_sheds _ _)
  plugDown h := h.downstreamLinkUp _
  power hup _ hott := .of_powerOn hup hott

/-- Settles O53. -/
theorem stepsKeepLiveTagsUnique : Obligations.StepsKeepLiveTagsUnique :=
  fun _ _ hstep hitems h => tagsUnique_lasting.step hstep hitems h

end Sys2Proof.Machine
end

section
/-! PROOFS. The table and the ports stay in agreement (R54, R62, R66, R87 to R90, R106, R119). -/

namespace Sys2Proof.Machine

-- One after another: checked side by side, the theorems exceed the memory limit of check.sh.
set_option Elab.async false

/-! ### Ports in service -/

theorem State.available_iff {s : State} {n : DPort} :
    s.available n = true ↔ (s.down.get n).link = .up ∧ (s.down.get n).fenced = false := by
  rw [State.available, Bool.and_eq_true, beq_iff_eq, Bool.not_eq_true']

theorem State.available_congr {s t : State} {n : DPort} (hlink : (t.down.get n).link = (s.down.get n).link)
    (hfenced : (t.down.get n).fenced = (s.down.get n).fenced) : t.available n = s.available n := by
  rw [State.available, State.available, hlink, hfenced]

theorem LinkState.eq_up_of_ne {l : LinkState} (h : l ≠ .down) : l = .up := by cases l <;> trivial

/-- A port that is DOWN, or that has been DOWN since its fence (R134). -/
def Downstream.Severed (d : Downstream) : Prop := d.link = .down ∨ d.fenced = true ∧ d.retrained = true

theorem Downstream.Severed.unavailable {s : State} {n : DPort} (h : (s.down.get n).Severed) : s.available n = false := by
  rcases h with hlink | ⟨hfenced, -⟩
  · rw [State.available, hlink]
    rfl
  · rw [State.available, hfenced, Bool.not_true, Bool.and_false]

/-- A port without entries has no orphans. -/
theorem State.orphanCount_of_free {s : State} {n : DPort} (h : ∀ k, (s.entry k).egress = n → (s.entry k).state = .free) :
    s.orphanCount n = 0 := by
  rw [State.orphanCount, State.ott_toList, List.countP_map, List.countP_eq_zero]
  intro k _ hk
  simp only [Function.comp_apply, Bool.and_eq_true, beq_iff_eq] at hk
  rw [h k hk.2] at hk
  cases hk.1

/-! ### The agreement -/

/-- The table and the ports agree, but that the ports in `crowded` may have as many orphans as their limit (R106). -/
structure State.Agrees (crowded : DPort → Prop) (s : State) : Prop where
  live    : ∀ k, (s.entry k).state.live = true →
    s.available (s.entry k).egress = true ∧ (s.up.get (s.entry k).src).link = .up
  marked  : ∀ k, (s.entry k).marked → (s.entry k).state.live = true
  severed : ∀ n, (s.down.get n).Severed → ∀ k, (s.entry k).egress = n → (s.entry k).state = .free
  limit   : ∀ n, 1 ≤ (s.down.get n).orphanLimit
  orphans : ∀ n, ¬ crowded n → (s.down.get n).fenced = false → s.orphanCount n < (s.down.get n).orphanLimit
  egress  : ∀ n, s.available n = false → (s.down.get n).egress = []
  waiting : ∀ x d, (s.up.get x).waiting = some d → (s.up.get x).ingress ≠ [] ∧ s.available d.egress = true
  unlinked : ∀ x, (s.up.get x).link = .down →
    (s.up.get x).ingress = [] ∧ (s.up.get x).returnQueue = [] ∧ (s.up.get x).waiting = none

theorem State.tableConsistent_iff {s : State} : s.TableConsistent ↔ s.Agrees uncrowded :=
  ⟨fun ⟨hlive, hmarked, hsevered, hlimit, horphans, hegress, hwaiting, hunlinked⟩ =>
      ⟨hlive, hmarked, hsevered, hlimit, fun n _ => horphans n, hegress, hwaiting, hunlinked⟩,
    fun h => ⟨h.live, h.marked, h.severed, h.limit, fun n => h.orphans n id, h.egress, h.waiting, h.unlinked⟩⟩

namespace State.Agrees

section
variable {crowded crowded' : DPort → Prop} {s t : State}

theorem link_of_ingress (h : s.Agrees crowded) {x : UPort} (hqueue : (s.up.get x).ingress ≠ []) : (s.up.get x).link = .up :=
  LinkState.eq_up_of_ne fun hlink => hqueue (h.unlinked x hlink).1

theorem link_of_waiting (h : s.Agrees crowded) {x : UPort} {d : Decoded} (hwaiting : (s.up.get x).waiting = some d) :
    (s.up.get x).link = .up := h.link_of_ingress (h.waiting x d hwaiting).1

/-- A DOWN port has no live entry and no head (R66, R90). -/
theorem idle (h : s.Agrees crowded) {x : UPort} (hlink : (s.up.get x).link = .down) : s.Idle x := by
  refine ⟨fun k hsrc => ?_, ?_⟩
  · by_contra hlive
    have hup := (h.live k (Bool.eq_true_of_not_eq_false hlive)).2
    rw [hsrc, hlink] at hup
    cases hup
  · rw [State.waitingHead, (h.unlinked x hlink).1]

/-! ### What recedes -/

/-- The table and the downstream ports recede; of the upstream ports only what the agreement says of them. -/
theorem of_receding (h : s.Agrees crowded) (hentry : ∀ k, (s.entry k).Recedes crowded' (t.entry k))
    (hdown : ∀ n, (s.down.get n).Recedes (t.down.get n)) (hle : ∀ n, crowded n → crowded' n)
    (hlinks : ∀ k, (t.entry k).state.live = true → (t.up.get (t.entry k).src).link = .up)
    (hheads : ∀ x d, (t.up.get x).waiting = some d → (s.up.get x).waiting = some d ∧ (t.up.get x).ingress ≠ [])
    (hunlinked : ∀ x, (t.up.get x).link = .down →
      (t.up.get x).ingress = [] ∧ (t.up.get x).returnQueue = [] ∧ (t.up.get x).waiting = none) : t.Agrees crowded' := by
  have havail (n : DPort) : t.available n = s.available n := State.available_congr (hdown n).link (hdown n).fenced
  have hbusy {k : Fin 128} (hlive : (t.entry k).state.live = true) : (t.entry k).state ≠ .free := fun hfree => by
    rw [hfree] at hlive
    cases hlive
  refine ⟨fun k hlive => ⟨?_, hlinks k hlive⟩, fun k hmarked => ?_, fun n hsevered k hn => ?_, fun n => ?_,
    fun n hcrowded hfenced => ?_, fun n hn => ?_, fun x d hwaiting => ?_, hunlinked⟩
  · rw [havail, ((hentry k).busy (hbusy hlive)).2]
    exact (h.live k ((hentry k).live hlive).1).1
  · obtain ⟨hmarked', hlive⟩ := (hentry k).marked hmarked
    exact hlive (h.marked k hmarked')
  · by_contra hstate
    obtain ⟨hstate', hegress⟩ := (hentry k).busy hstate
    rw [Downstream.Severed, (hdown n).link, (hdown n).fenced, (hdown n).retrained] at hsevered
    exact hstate' (h.severed n hsevered k (hegress ▸ hn))
  · rw [(hdown n).limit]
    exact h.limit n
  · rw [(hdown n).limit]
    rw [(hdown n).fenced] at hfenced
    refine (State.orphanCount_le fun k horphan hn => ?_).trans_lt (h.orphans n (fun hn => hcrowded (hle n hn)) hfenced)
    obtain ⟨-, hegress⟩ := (hentry k).busy (by rw [horphan]; decide)
    rw [hegress] at hn
    exact ⟨((hentry k).orphan horphan).resolve_left (hn ▸ hcrowded), hn⟩
  · exact (hdown n).egress (h.egress n (havail n ▸ hn))
  · obtain ⟨hwaiting', hqueue⟩ := hheads x d hwaiting
    rw [havail]
    exact ⟨hqueue, (h.waiting x d hwaiting').2⟩

theorem recedes (h : s.Agrees crowded) (hst : s.Recedes (fun x => (s.up.get x).link = .up) crowded' t)
    (hle : ∀ n, crowded n → crowded' n) : t.Agrees crowded' := by
  refine h.of_receding hst.entry hst.down hle (fun k hlive => ?_) (fun x d hwaiting => ?_) fun x hlink => ?_
  · obtain ⟨hlive', hsrc, -⟩ := (hst.entry k).live hlive
    rw [hsrc, (hst.up _).link]
    exact (h.live k hlive').2
  · rcases (hst.up x).waiting with hnone | ⟨hsame, hprefix⟩
    · rw [hnone] at hwaiting
      cases hwaiting
    · rw [hsame] at hwaiting
      refine ⟨hwaiting, fun hnil => ?_⟩
      rw [hnil, List.prefix_nil] at hprefix
      exact (h.waiting x d hwaiting).1 hprefix
  · have hup := hst.up x
    rw [hup.link] at hlink
    have hdeaf : ¬ (s.up.get x).link = .up := fun h => by rw [hlink] at h; cases h
    obtain ⟨hingress, hreturns, hnone⟩ := h.unlinked x hlink
    refine ⟨hup.ingress hdeaf hingress, hup.returns hdeaf hreturns, ?_⟩
    rcases hup.waiting with hnone' | ⟨hsame, -⟩
    · exact hnone'
    · rw [hsame, hnone]

/-- Only a test that is passed tells anything of the port it tests (R106). -/
theorem passed (h : s.Agrees crowded) {n : DPort} (hcount : s.orphanCount n < (s.down.get n).orphanLimit) :
    s.Agrees (testedAt crowded n) :=
  { h with
    orphans := fun m hm hfenced => by
      by_cases hn : m = n
      · rw [hn]
        exact hcount
      · exact h.orphans m (fun hcrowded => hm ⟨hcrowded, hn⟩) hfenced }

/-! ### Downstream ports alone -/

/-- The downstream ports change, without one going out of service or losing its limit. -/
theorem of_down (h : s.Agrees crowded) (hup : t.up = s.up) (hott : t.ott = s.ott)
    (havail : ∀ n, s.available n = true → t.available n = true)
    (hegress : ∀ n, (t.down.get n).egress = (s.down.get n).egress)
    (hsevered : ∀ n, (t.down.get n).Severed → (s.down.get n).Severed) (hlimit : ∀ n, 1 ≤ (t.down.get n).orphanLimit)
    (horphans : ∀ n, ¬ crowded' n → (t.down.get n).fenced = false → s.orphanCount n < (t.down.get n).orphanLimit) :
    t.Agrees crowded' := by
  have hentry := State.entry_congr hott
  refine ⟨fun k hlive => ?_, fun k hmarked => ?_, fun n hsev k hn => ?_, hlimit, fun n hcrowded hfenced => ?_, fun n hn => ?_,
    fun x d hwaiting => ?_, hup ▸ h.unlinked⟩
  · rw [hentry] at hlive ⊢
    rw [hup]
    exact (h.live k hlive).imp_left (havail _)
  · rw [hentry] at hmarked ⊢
    exact h.marked k hmarked
  · rw [hentry] at hn ⊢
    exact h.severed n (hsevered n hsev) k hn
  · rw [State.orphanCount, hott]
    exact horphans n hcrowded hfenced
  · rw [hegress]
    refine h.egress n (Bool.eq_false_iff.mpr fun hs => ?_)
    rw [havail n hs] at hn
    cases hn
  · rw [hup] at hwaiting ⊢
    exact (h.waiting x d hwaiting).imp_right (havail _)

/-- One downstream port changes so. -/
theorem onDown (h : s.Agrees crowded) (n : DPort) {f : Downstream → Downstream}
    (havail : s.available n = true → (f (s.down.get n)).link = .up ∧ (f (s.down.get n)).fenced = false)
    (hegress : (f (s.down.get n)).egress = (s.down.get n).egress)
    (hsevered : (f (s.down.get n)).Severed → (s.down.get n).Severed) (hlimit : 1 ≤ (f (s.down.get n)).orphanLimit)
    (horphans : ¬ crowded' n → (f (s.down.get n)).fenced = false → s.orphanCount n < (f (s.down.get n)).orphanLimit)
    (hle : ∀ m, m ≠ n → crowded m → crowded' m) : (s.onDown n f).Agrees crowded' := by
  have hget : (s.onDown n f).down.get n = f (s.down.get n) := PerDown.get_modify_self _ _ _
  have hother {m : DPort} (hm : m ≠ n) : (s.onDown n f).down.get m = s.down.get m := PerDown.get_modify_ne _ _ hm
  refine h.of_down rfl rfl (fun m hm => ?_) (fun m => ?_) (fun m => ?_) (fun m => ?_) fun m => ?_ <;> by_cases hmn : m = n
  · subst hmn
    rw [State.available_iff, hget]
    exact havail hm
  · rwa [State.available, hother hmn]
  · subst hmn
    rw [hget, hegress]
  · rw [hother hmn]
  · subst hmn
    rw [hget]
    exact hsevered
  · rw [hother hmn]
    exact id
  · subst hmn
    rw [hget]
    exact hlimit
  · rw [hother hmn]
    exact h.limit m
  · subst hmn
    rw [hget]
    exact horphans
  · rw [hother hmn]
    exact fun hcrowded => h.orphans m fun hm => hcrowded (hle m hmn hm)

/-- A new limit, which the test that follows measures (R105, R106). -/
theorem orphanLimit (h : s.Agrees uncrowded) (n : DPort) {k : Nat} (hk : 1 ≤ k) :
    (s.onDown n fun d => { d with orphanLimit := k }).Agrees (crowdedAt n) :=
  h.onDown n State.available_iff.mp rfl id hk (fun hn => absurd rfl hn) fun _ _ => False.elim

/-- A fence is cleared once the entries of its port are FREE (R134, R141). -/
theorem unfence (h : s.Agrees uncrowded) (n : DPort) : (s.unfence n).Agrees uncrowded := by
  unfold State.unfence
  split
  · next hretrained =>
    refine h.onDown n (fun havail => ⟨(State.available_iff.mp havail).1, rfl⟩) rfl (fun hsevered => ?_) (h.limit n)
      (fun _ _ => ?_) fun _ _ => id
    · exact hsevered.imp_right fun hfenced => absurd hfenced.1 Bool.false_ne_true
    · by_cases hset : (s.down.get n).fenced = true
      · rw [State.orphanCount_of_free (h.severed n (.inr ⟨hset, hretrained⟩))]
        exact h.limit n
      · exact h.orphans n id (Bool.eq_false_iff.mpr hset)
  · exact h

/-- With every downstream port DOWN there is no entry left (R135). -/
theorem clearFences (h : s.Agrees uncrowded) (hdown : ∀ n, (s.down.get n).link = .down) :
    State.Agrees uncrowded { s with down := s.down.map Downstream.clearFence } := by
  refine h.of_down rfl rfl (fun n hn => ?_) (fun n => ?_) (fun n _ => .inl (hdown n)) (fun n => ?_) fun n _ _ => ?_
  · rw [State.available_iff, hdown n] at hn
    cases hn.1
  · rw [PerDown.get_map]
    rfl
  · rw [PerDown.get_map]
    exact h.limit n
  · rw [PerDown.get_map, State.orphanCount_of_free (h.severed n (.inl (hdown n)))]
    exact h.limit n

/-! ### Links -/

theorem downstreamLinkUp (h : s.Agrees uncrowded) (n : DPort) : (s.downstreamLinkUp n).Agrees uncrowded := by
  unfold State.downstreamLinkUp
  split
  · exact h
  · refine (h.onDown n (crowded' := uncrowded) (fun havail => ⟨rfl, (State.available_iff.mp havail).2⟩) rfl
      (fun hsevered => ?_) (h.limit n) (fun _ => h.orphans n id) fun _ _ => id).recedes ((State.Recedes.refl _).raise _) fun _ => id
    exact .inr (hsevered.resolve_left nofun)

theorem upstreamLinkUp (h : s.Agrees uncrowded) (x : UPort) : (s.upstreamLinkUp x).Agrees uncrowded := by
  unfold State.upstreamLinkUp
  split
  · exact h
  · refine h.of_receding (fun _ => .refl _) (fun _ => .refl _) (fun _ => id) (fun k hlive => ?_) (fun y d hwaiting => ?_)
      fun y hlink => ?_
    · rw [State.raise_up, State.onUp_up, PerUp.get_modify]
      split
      · rfl
      · exact (h.live k hlive).2
    · rw [State.raise_up, State.onUp_up, PerUp.get_modify] at hwaiting ⊢
      split at hwaiting
      · cases hwaiting
      · next hy =>
        rw [if_neg hy]
        exact ⟨hwaiting, (h.waiting y d hwaiting).1⟩
    · rw [State.raise_up, State.onUp_up, PerUp.get_modify] at hlink ⊢
      split at hlink
      · cases hlink
      · next hy =>
        rw [if_neg hy]
        exact h.unlinked y hlink


end

end State.Agrees

end Sys2Proof.Machine
end

section
/-! PROOFS. The table and the ports stay in agreement, settled: the fence and the link-down of a downstream port (R88, R89), the
departure of an upstream port (R90), and the allocation event (R73). -/

namespace Sys2Proof.Machine

-- One after another: checked side by side, the theorems exceed the memory limit of check.sh.
set_option Elab.async false

/-! ### A port that goes out of service -/

/-- What the end of every entry of Dn leaves: none of them live, none newly marked. -/
structure OttEntry.Cuts (n : DPort) (end_ : OttEntry → OttEntry) : Prop where
  other  : ∀ e, e.egress ≠ n → end_ e = e
  egress : ∀ e, (end_ e).egress = e.egress
  live   : ∀ e, e.egress = n → (end_ e).state.live = false
  marked : ∀ e, e.egress = n → (end_ e).marked → e.marked ∧ e.state.live = false

theorem OttEntry.fencedOff_cuts (n : DPort) : OttEntry.Cuts n (OttEntry.fencedOff n) where
  other _ := OttEntry.fencedOff_of_ne
  egress := OttEntry.fencedOff_egress n
  live e hn := by
    rw [OttEntry.fencedOff, if_neg (not_not.mpr hn)]
    cases hstate : e.state with
    | pending | issued | streaming => rfl
    | orphan | free => exact congrArg EntryState.live hstate
  marked e hn h := by
    rw [OttEntry.fencedOff, if_neg (not_not.mpr hn)] at h
    cases hstate : e.state with
    | pending | issued | streaming =>
      rw [hstate] at h
      rcases h with h | h <;> cases h
    | orphan | free =>
      rw [hstate] at h
      exact ⟨h, rfl⟩

theorem OttEntry.cutOff_of_ne {n : DPort} {e : OttEntry} (h : e.egress ≠ n) : e.cutOff n = e := if_pos h

/-- Every entry of a port that goes DOWN is FREE (R89). -/
theorem OttEntry.cutOff_free {n : DPort} {e : OttEntry} (h : e.egress = n) : (e.cutOff n).state = .free := by
  rw [OttEntry.cutOff, if_neg (not_not.mpr h)]
  cases hstate : e.state with
  | pending | issued | streaming | orphan => rfl
  | free => exact hstate

theorem OttEntry.cutOff_cuts (n : DPort) : OttEntry.Cuts n (OttEntry.cutOff n) where
  other _ := OttEntry.cutOff_of_ne
  egress e := by
    unfold OttEntry.cutOff
    split
    · rfl
    · split <;> rfl
  live e hn := by rw [OttEntry.cutOff_free hn]; rfl
  marked e hn h := by
    rw [OttEntry.cutOff, if_neg (not_not.mpr hn)] at h
    cases hstate : e.state with
    | pending | issued | streaming | orphan =>
      rw [hstate] at h
      rcases h with h | h <;> cases h
    | free =>
      rw [hstate] at h
      exact ⟨h, rfl⟩

/-- The departure of a requester begins no entry (R90). -/
theorem OttEntry.departed_recedes (x : UPort) (e : OttEntry) : e.Recedes (fun _ => True) (e.departed x) := by
  unfold OttEntry.departed
  split
  · exact .refl e
  · cases hstate : e.state with
    | pending => exact OttEntry.freed_recedes e
    | issued | streaming => exact OttEntry.orphaned_recedes (by rw [hstate]; decide) trivial
    | orphan | free => exact .refl e

/-- A head is decoded toward a port in service alone (R54). -/
theorem State.available_of_forward {s : State} {x : UPort} {r : Request} {d : Decoded}
    (h : s.decodeHead x r = .forward d) : s.available d.egress = true := by
  have hmgmt : s.decodeMgmt x r ≠ .forward d := by
    unfold State.decodeMgmt
    dsimp only
    split
    · nofun
    · split
      · nofun
      · split
        · nofun
        · split
          · nofun
          · split <;> nofun
  unfold State.decodeHead at h
  split at h
  · cases h
  · split at h
    · cases h
    · split at h
      · exact absurd h hmgmt
      · split at h
        · next i _ =>
          unfold State.decodeWindow at h
          dsimp only at h
          split at h
          · cases h
          · split at h
            · next havail =>
              cases h
              exact havail
            · cases h
        · cases h

namespace State.Agrees

section
variable {crowded crowded' : DPort → Prop} {s t : State}

/-- A port out of service with its entries ended and its waiting heads failed agrees with the table (R62, R88, R89, R119). -/
theorem bereaves (h : s.Agrees crowded) {n : DPort} {port : Downstream → Downstream} {end_ : OttEntry → OttEntry}
    (hst : s.Bereaves t n port end_) (hcuts : OttEntry.Cuts n end_)
    (hservice : (port (s.down.get n)).link = .down ∨ (port (s.down.get n)).fenced = true)
    (hegress : (port (s.down.get n)).egress = []) (hlimit : (port (s.down.get n)).orphanLimit = (s.down.get n).orphanLimit)
    (hsevered : (port (s.down.get n)).Severed → ∀ k, (s.entry k).egress = n → (end_ (s.entry k)).state = .free)
    (hle : ∀ m, m ≠ n → crowded m → crowded' m) : t.Agrees crowded' := by
  have hget : t.down.get n = port (s.down.get n) := by rw [hst.down, PerDown.get_modify_self]
  have hother {m : DPort} (hm : m ≠ n) : t.down.get m = s.down.get m := by rw [hst.down, PerDown.get_modify_ne _ _ hm]
  have hout : t.available n = false := Bool.eq_false_iff.mpr fun havail => by
    obtain ⟨hlink, hfenced⟩ := State.available_iff.mp havail
    rw [hget] at hlink hfenced
    rcases hservice with hdown | hset
    · rw [hdown] at hlink
      cases hlink
    · rw [hset] at hfenced
      cases hfenced
  have havail {m : DPort} (hm : m ≠ n) : t.available m = s.available m := by rw [State.available, State.available, hother hm]
  have hspared {k : Fin 128} (hlive : (t.entry k).state.live = true) : (s.entry k).egress ≠ n ∧ t.entry k = s.entry k := by
    have hne : (s.entry k).egress ≠ n := fun hn => by
      rw [hst.entry, hcuts.live _ hn] at hlive
      cases hlive
    exact ⟨hne, by rw [hst.entry, hcuts.other _ hne]⟩
  have hhead (y : UPort) := s.bereft_head n y
  have hlink (y : UPort) : (t.up.get y).link = (s.up.get y).link := by
    have hy := hhead y
    rw [← hst.up] at hy
    split at hy <;> exact congrArg Head.link hy
  refine ⟨fun k hlive => ?_, fun k hmarked => ?_, fun m hsev k hm => ?_, fun m => ?_, fun m hcrowded hfenced => ?_,
    fun m hm => ?_, fun y d hwaiting => ?_, fun y hdown => ?_⟩
  · obtain ⟨hne, hsame⟩ := hspared hlive
    rw [hsame] at hlive ⊢
    rw [havail hne, hlink]
    exact h.live k hlive
  · rw [hst.entry] at hmarked ⊢
    by_cases hn : (s.entry k).egress = n
    · obtain ⟨hmarked', hended⟩ := hcuts.marked _ hn hmarked
      rw [h.marked k hmarked'] at hended
      cases hended
    · rw [hcuts.other _ hn] at hmarked ⊢
      exact h.marked k hmarked
  · rw [hst.entry, hcuts.egress] at hm
    rw [hst.entry]
    by_cases hmn : m = n
    · subst hmn
      rw [hget] at hsev
      exact hsevered hsev k hm
    · rw [hother hmn] at hsev
      rw [hcuts.other _ (hm ▸ hmn)]
      exact h.severed m hsev k hm
  · by_cases hmn : m = n
    · subst hmn
      rw [hget, hlimit]
      exact h.limit m
    · rw [hother hmn]
      exact h.limit m
  · by_cases hmn : m = n
    · subst hmn
      have hdown : (t.down.get m).link = .down := by
        rw [hget] at hfenced ⊢
        exact hservice.resolve_right (Bool.eq_false_iff.mp hfenced)
      have hfree : ∀ k, (t.entry k).egress = m → (t.entry k).state = .free := fun k hk => by
        rw [hst.entry, hcuts.egress] at hk
        rw [hst.entry]
        exact hsevered (hget ▸ .inl hdown) k hk
      rw [State.orphanCount_of_free hfree, hget, hlimit]
      exact h.limit m
    · rw [hother hmn] at hfenced ⊢
      refine (State.orphanCount_le fun k horphan hm => ?_).trans_lt
        (h.orphans m (fun hm => hcrowded (hle m hmn hm)) hfenced)
      rw [hst.entry, hcuts.egress] at hm
      rw [hst.entry, hcuts.other _ (hm ▸ hmn)] at horphan
      exact ⟨horphan, hm⟩
  · by_cases hmn : m = n
    · subst hmn
      rw [hget, hegress]
    · rw [hother hmn]
      exact h.egress m (havail hmn ▸ hm)
  · have hy := hhead y
    rw [← hst.up] at hy
    split at hy
    · rw [show (t.up.get y).waiting = none from congrArg Head.waiting hy] at hwaiting
      cases hwaiting
    · next hwaits =>
      have hqueue : (t.up.get y).ingress = (s.up.get y).ingress := congrArg Head.ingress hy
      rw [show (t.up.get y).waiting = (s.up.get y).waiting from congrArg Head.waiting hy] at hwaiting
      obtain ⟨hne, hd⟩ := h.waiting y d hwaiting
      obtain ⟨r, tail, hcons⟩ := List.exists_cons_of_ne_nil hne
      have hdn : d.egress ≠ n := fun hn =>
        hwaits (State.waitsFor_iff.mpr ⟨r, d, State.waitingHead_eq_some_iff.mpr ⟨tail, hcons, hwaiting⟩, hn⟩)
      rw [hqueue, havail hdn]
      exact ⟨hne, hd⟩
  · rw [hlink] at hdown
    rw [hst.up, State.bereft_of_idle (h.idle hdown)]
    exact h.unlinked y hdown

theorem fence (h : s.Agrees crowded) (n : DPort) (reason : FenceReason) : (s.fence n reason).Agrees (testedAt crowded n) := by
  cases hfenced : (s.down.get n).fenced with
  | true =>
    rw [State.fence_of_fenced hfenced]
    refine { h with orphans := fun m hm hclear => h.orphans m (fun hcrowded => hm ⟨hcrowded, ?_⟩) hclear }
    rintro rfl
    rw [hfenced] at hclear
    cases hclear
  | false =>
    refine h.bereaves (State.fence_bereaves hfenced reason) (OttEntry.fencedOff_cuts n) (.inr rfl) rfl rfl
      (fun hsevered k hn => ?_) fun m hm hcrowded => ⟨hcrowded, hm⟩
    have hdown : (s.down.get n).link = .down := by
      rcases hsevered with hlink | ⟨-, hretrained⟩
      · exact hlink
      · exact beq_iff_eq.mp hretrained
    have hfree := h.severed n (.inl hdown) k hn
    rwa [OttEntry.fencedOff_not_live (by rw [hfree]; rfl)]

theorem linkDown (h : s.Agrees crowded) (n : DPort) : (s.linkDown n).Agrees crowded :=
  h.bereaves (s.linkDown_bereaves n) (OttEntry.cutOff_cuts n) (.inl rfl) rfl rfl
    (fun _ _ hn => OttEntry.cutOff_free hn) fun _ _ => id

/-! ### The departure of an upstream port -/

theorem departed (h : s.Agrees uncrowded) (x : UPort) : (s.departed x).Agrees fun _ => True := by
  have hup (y : UPort) : (s.departed x).up.get y = if y = x then (s.up.get y).unplugged else s.up.get y := by
    rw [(s.departed_only x).1, PerUp.get_modify]
  refine h.of_receding (fun k => ?_) (fun n => ?_) (fun _ _ => trivial) (fun k hlive => ?_) (fun y d hwaiting => ?_)
    fun y hlink => ?_
  · rw [State.departed_entry]
    exact OttEntry.departed_recedes x _
  · obtain ⟨q, hq, hthin⟩ := s.departed_down x n
    rw [hthin]
    exact ⟨rfl, rfl, rfl, rfl, fun hnil => List.sublist_nil.mp (hnil ▸ hq)⟩
  · rw [State.departed_entry] at hlive ⊢
    have hsame := OttEntry.departed_live hlive
    have hsrc : (s.entry k).src ≠ x := fun hsrc => by
      rw [OttEntry.departed_not_live hsrc] at hlive
      cases hlive
    rw [hsame] at hlive ⊢
    rw [hup, if_neg hsrc]
    exact (h.live k hlive).2
  · rw [hup] at hwaiting ⊢
    split at hwaiting
    · cases hwaiting
    · next hy =>
      rw [if_neg hy]
      exact ⟨hwaiting, (h.waiting y d hwaiting).1⟩
  · rw [hup] at hlink ⊢
    split at hlink
    · next hy =>
      rw [if_pos hy]
      exact ⟨rfl, rfl, rfl⟩
    · next hy =>
      rw [if_neg hy]
      exact h.unlinked y hlink

/-! ### The allocation event -/

theorem allocate (h : s.Agrees crowded) : s.allocate.Agrees crowded := by
  obtain ⟨tickets, halloc⟩ := s.allocate_allocates
  have hwaits {x : UPort} {r : Request} {d : Decoded} (hhead : s.waitingHead x = some (r, d)) :
      (s.up.get x).link = .up ∧ s.available d.egress = true := by
    obtain ⟨_, _, hwaiting⟩ := State.waitingHead_eq_some_iff.mp hhead
    exact ⟨h.link_of_waiting hwaiting, (h.waiting x d hwaiting).2⟩
  have hport (n : DPort) : (s.allocate.down.get n).link = (s.down.get n).link
      ∧ (s.allocate.down.get n).fenced = (s.down.get n).fenced
      ∧ (s.allocate.down.get n).retrained = (s.down.get n).retrained
      ∧ (s.allocate.down.get n).orphanLimit = (s.down.get n).orphanLimit := by
    obtain ⟨items, admission, hjoin⟩ := halloc.joins n
    rw [hjoin]
    exact ⟨rfl, rfl, rfl, rfl⟩
  have havail (n : DPort) : s.allocate.available n = s.available n := State.available_congr (hport n).1 (hport n).2.1
  have hlink (x : UPort) : (s.allocate.up.get x).link = (s.up.get x).link := by
    rw [halloc.up]
    split <;> rfl
  refine ⟨fun k hlive => ?_, fun k hmarked => ?_, fun n hsevered k hn => ?_, fun n => ?_, fun n hcrowded hfenced => ?_,
    fun n hn => ?_, fun x d hwaiting => ?_, fun x hdown => ?_⟩
  · rw [havail, hlink]
    rcases s.allocate_entry_cases k with hsame | ⟨x, -, r, d, kind, hhead, -, hentry⟩
    · rw [hsame] at hlive ⊢
      exact h.live k hlive
    · rw [hentry]
      exact (hwaits hhead).symm
  · rcases s.allocate_entry_cases k with hsame | ⟨x, -, hgrants⟩
    · rw [hsame] at hmarked ⊢
      exact h.marked k hmarked
    · rw [hgrants.pending]
      rfl
  · obtain ⟨hl, hf, hr, -⟩ := hport n
    rw [Downstream.Severed, hl, hf, hr] at hsevered
    rcases s.allocate_entry_cases k with hsame | ⟨x, -, r, d, kind, hhead, -, hentry⟩
    · rw [hsame] at hn ⊢
      exact h.severed n hsevered k hn
    · rw [hentry] at hn
      have hin := (hwaits hhead).2
      rw [show d.egress = n from hn, Downstream.Severed.unavailable hsevered] at hin
      cases hin
  · rw [(hport n).2.2.2]
    exact h.limit n
  · obtain ⟨-, hf, -, hl⟩ := hport n
    rw [hf] at hfenced
    rw [State.allocate_orphanCount, hl]
    exact h.orphans n hcrowded hfenced
  · rw [havail] at hn
    rw [halloc.down n hn]
    exact h.egress n hn
  · rw [halloc.up] at hwaiting ⊢
    rw [havail]
    split at hwaiting
    · cases hwaiting
    · next hticket =>
      rw [if_neg hticket]
      exact h.waiting x d hwaiting
  · rw [hlink] at hdown
    have hticket : ¬ (tickets x).isSome = true := fun hticket => by
      obtain ⟨r, d, hhead, -⟩ := halloc.wants x hticket
      rw [(h.idle hdown).2] at hhead
      cases hhead
    rw [halloc.up, if_neg hticket]
    exact h.unlinked x hdown

/-- A head decoded toward a port in service may wait for it (R54, R61). -/
theorem decoded (h : s.Agrees crowded) {x : UPort} {r : Request} {d : Decoded}
    (hhead : s.headOutcome x = some (r, .forward d)) : (s.onUp x (Upstream.decoded d)).Agrees crowded := by
  obtain ⟨-, hdecode⟩ := State.headOutcome_eq_some_iff.mp hhead
  have hservice : s.available d.egress = true := State.available_of_forward hdecode
  have hqueue := State.ingress_of_headOutcome hhead
  have hup (y : UPort) : (s.onUp x (Upstream.decoded d)).up.get y =
      if y = x then (s.up.get y).decoded d else s.up.get y := by
    rw [State.onUp_up, PerUp.get_modify]
  have hlink (y : UPort) : ((s.onUp x (Upstream.decoded d)).up.get y).link = (s.up.get y).link := by
    rw [hup]
    split <;> rfl
  refine { h with
    live := fun k hlive => ⟨(h.live k hlive).1, (hlink _).trans (h.live k hlive).2⟩
    waiting := fun y d' hwaiting => ?_
    unlinked := fun y hdown => ?_ }
  · rw [hup] at hwaiting ⊢
    split at hwaiting
    · next hy =>
      cases hwaiting
      rw [if_pos hy]
      exact ⟨hy ▸ hqueue, hservice⟩
    · next hy =>
      rw [if_neg hy]
      exact h.waiting y d' hwaiting
  · rw [hlink] at hdown
    have hy : y ≠ x := fun hy => hqueue (hy ▸ (h.unlinked y hdown).1)
    rw [hup, if_neg hy]
    exact h.unlinked y hdown

/-- At power-on every port is DOWN and every entry FREE (R190). -/
theorem of_powerOn {msel : BitVec 4} (hup : s.up = (State.powerOn msel).up) (hdown : s.down = (State.powerOn msel).down)
    (hott : s.ott = (State.powerOn msel).ott) : s.Agrees crowded := by
  have hentry (k : Fin 128) : s.entry k = OttEntry.zero := by
    rw [State.entry, hott, State.powerOn, Vector.getElem_replicate]
  have hupget (x : UPort) : s.up.get x = Upstream.powerOn := by rw [hup]; cases x <;> rfl
  have hdownget (n : DPort) : s.down.get n = Downstream.powerOn := by rw [hdown]; cases n <;> rfl
  have hfree (k : Fin 128) : (s.entry k).state = .free := by rw [hentry]; rfl
  refine ⟨fun k hlive => ?_, fun k hmarked => ?_, fun _ _ k _ => hfree k, fun n => ?_, fun n _ _ => ?_, fun n _ => ?_,
    fun x d hwaiting => ?_, fun x _ => ?_⟩
  · rw [hfree] at hlive
    cases hlive
  · rw [hentry] at hmarked
    rcases hmarked with h | h <;> cases h
  · rw [hdownget]
    decide
  · rw [State.orphanCount_of_free fun k _ => hfree k, hdownget]
    decide
  · rw [hdownget]
    rfl
  · rw [hupget] at hwaiting
    cases hwaiting
  · rw [hupget]
    exact ⟨rfl, rfl, rfl⟩

end

end State.Agrees

/-! ### Every step -/

/-- Only the ports that are UP hear. -/
theorem agrees_lasting : Lasting State.Agrees fun s x => (s.up.get x).link = .up where
  linked _ hlink := LinkState.eq_up_of_ne hlink
  queued h hqueue := h.link_of_ingress hqueue
  requested h hlive := (h.live _ hlive).2
  recedes h hst hle := h.recedes hst hle
  fence n reason h := h.fence n reason
  passed h hcount := h.passed hcount
  linkDown h _ := h.linkDown _
  allocate h := h.allocate
  decoded h hhead := h.decoded hhead
  limit h hk := h.orphanLimit _ hk
  unfence h := h.unfence _
  clear h hdown := h.clearFences hdown
  plug h := h.upstreamLinkUp _
  departed h := h.departed _
  plugDown h := h.downstreamLinkUp _
  power hup hdown hott := .of_powerOn hup hdown hott

/-- Settles O54. -/
theorem stepsKeepTableAndPortsConsistent : Obligations.StepsKeepTableAndPortsConsistent :=
  fun _ _ hstep hitems h =>
    State.tableConsistent_iff.mpr (agrees_lasting.step hstep hitems (State.tableConsistent_iff.mp h))

end Sys2Proof.Machine
end

section
/-! PROOFS. What soft reset answers (R68, R91, R187): the parts that come to an upstream port and the heads that leave it, one
forced link-down after another and then from its ingress queue. -/

namespace Sys2Proof.Machine

-- One after another: checked side by side, the theorems exceed the memory limit of check.sh.
set_option Elab.async false

/-! ### Saturating sums -/

theorem satAdd_zero {w : Nat} (c : BitVec w) : satAdd c 0 = c := by
  rw [satAdd, Nat.add_zero, if_pos c.isLt, BitVec.ofNat_toNat, BitVec.setWidth_eq]

theorem satAdd_satAdd {w : Nat} (c : BitVec w) (j k : Nat) : satAdd (satAdd c j) k = satAdd c (j + k) := by
  unfold satAdd
  by_cases hj : c.toNat + j < 2 ^ w
  · rw [if_pos hj, BitVec.toNat_ofNat, Nat.mod_eq_of_lt hj, Nat.add_assoc]
  · have hpos : 0 < 2 ^ w := Nat.two_pow_pos w
    rw [if_neg hj, BitVec.toNat_allOnes, if_neg (fun h => hj (by omega) : ¬ c.toNat + (j + k) < 2 ^ w)]
    split
    · next hk =>
      obtain rfl : k = 0 := by omega
      rw [Nat.add_zero]
      exact BitVec.eq_of_toNat_eq (by rw [BitVec.toNat_ofNat, BitVec.toNat_allOnes, Nat.mod_eq_of_lt (by omega)])
    · rfl

/-! ### A port that is answered -/

/-- A port that has received `ps` and whose first k heads have left with their credits. -/
def Upstream.answered (u : Upstream) (ps : List Part) (k : Nat) : Upstream :=
  { u with
    ingress := u.ingress.drop k
    waiting := if k = 0 then u.waiting else none
    returnQueue := u.returnQueue ++ ps
    pendingCredits := satAdd u.pendingCredits k }

/-- v is u answered so, its counters apart. -/
def Upstream.Answers (u v : Upstream) (ps : List Part) (k : Nat) : Prop :=
  ∃ counters, v = { u.answered ps k with counters := counters }

namespace Upstream.Answers

variable {u v w : Upstream} {ps qs : List Part} {j k : Nat}

theorem refl (u : Upstream) : u.Answers u [] 0 :=
  ⟨u.counters, by rw [Upstream.answered, List.append_nil, satAdd_zero, List.drop_zero, if_pos rfl]⟩

theorem trans (h : u.Answers v ps j) (h' : v.Answers w qs k) : u.Answers w (ps ++ qs) (j + k) := by
  obtain ⟨c, rfl⟩ := h
  obtain ⟨c', rfl⟩ := h'
  refine ⟨c', ?_⟩
  have hwaiting : (if k = 0 then (if j = 0 then u.waiting else none) else none) = if j + k = 0 then u.waiting else none := by
    by_cases hk : k = 0
    · simp only [hk, if_true, Nat.add_zero]
    · simp only [hk, if_false, Nat.add_eq_zero_iff, and_false]
  simp only [Upstream.answered, List.drop_drop, satAdd_satAdd, List.append_assoc, hwaiting]

theorem returnQueue (h : u.Answers v ps k) : v.returnQueue = u.returnQueue ++ ps := by
  obtain ⟨c, rfl⟩ := h
  rfl

/-- Parts that find room (R58). -/
theorem receiveAll (hroom : u.returnQueue.length + ps.length ≤ 576) : u.Answers (u.receiveAll ps) ps 0 :=
  ⟨u.counters, by rw [Upstream.receiveAll_of_room hroom, Upstream.answered, satAdd_zero, List.drop_zero, if_pos rfl]⟩

/-- A head that leaves (R15, R48). -/
theorem resolved (u : Upstream) (d : Disposition) (kind : ReqKind) : u.Answers (u.resolved d kind) [] 1 :=
  ⟨u.counters.countHead d kind, by
    rw [Upstream.answered, List.append_nil, List.drop_one, if_neg Nat.one_ne_zero]
    rfl⟩

end Upstream.Answers

/-! ### One forced link-down (R62, R89, R131) -/

/-- The answer of a head of Uy that waits for Dn (R62). -/
def State.waitParts (s : State) (n : DPort) (y : UPort) : List Part :=
  match s.waitingHead y with
  | some (r, d) => if d.egress = n then finalParts r .unavailable else []
  | none => []

theorem State.unavailableParts_eq (s : State) (n : DPort) (y : UPort) :
    s.unavailableParts n y = s.lastParts n y ottIndices ++ s.waitParts n y := rfl

/-- A link-down of Dn with room for its answers (R62, R89). -/
theorem State.bereft_answers {s : State} {n : DPort} {y : UPort}
    (hroom : (s.up.get y).returnQueue.length + (s.unavailableParts n y).length ≤ 576) :
    (s.up.get y).Answers (s.bereft n y) (s.unavailableParts n y) (if s.waitsFor y n then 1 else 0) := by
  rw [State.unavailableParts_eq] at hroom ⊢
  rw [List.length_append] at hroom
  have hentries := Upstream.Answers.receiveAll (u := s.up.get y) (ps := s.lastParts n y ottIndices) (by omega)
  have hhead : ((s.up.get y).receiveAll (s.lastParts n y ottIndices)).head = (s.up.get y).head := Upstream.receiveAll_head _ _
  have hunfailed (hparts : s.waitParts n y = []) (hwaits : s.waitsFor y n = false)
      (hfailed : s.bereft n y = (s.up.get y).receiveAll (s.lastParts n y ottIndices)) :
      (s.up.get y).Answers (s.bereft n y) (s.lastParts n y ottIndices ++ s.waitParts n y)
        (if s.waitsFor y n then 1 else 0) := by
    rw [hparts, hfailed, List.append_nil, hwaits]
    exact hentries
  cases hwaiting : s.waitingHead y with
  | none =>
    exact hunfailed (by rw [State.waitParts, hwaiting]) (by rw [State.waitsFor, hwaiting])
      (Upstream.failed_of_none hwaiting hhead n)
  | some p =>
    obtain ⟨r, d⟩ := p
    have hfailed := Upstream.failed_of_waiting hwaiting hhead n
    by_cases hn : d.egress = n
    · have hparts : s.waitParts n y = finalParts r .unavailable := by
        simp only [State.waitParts, hwaiting, if_pos hn]
      have hwaits : s.waitsFor y n = true := State.waitsFor_iff.mpr ⟨r, d, hwaiting, hn⟩
      rw [if_pos hn] at hfailed
      rw [hparts] at hroom ⊢
      rw [State.bereft, hfailed, hwaits, if_pos rfl]
      have hanswer := Upstream.Answers.receiveAll (u := (s.up.get y).receiveAll (s.lastParts n y ottIndices))
        (ps := finalParts r .unavailable) (by rw [hentries.returnQueue, List.length_append]; omega)
      have hall := (hentries.trans hanswer).trans (.resolved _ .unavailable r.kind)
      rwa [List.append_nil] at hall
    · rw [if_neg hn] at hfailed
      refine hunfailed (by simp only [State.waitParts, hwaiting, if_neg hn]) (Bool.eq_false_iff.mpr fun hwaits => ?_) hfailed
      obtain ⟨r', d', hwaiting', hn'⟩ := State.waitsFor_iff.mp hwaits
      rw [hwaiting] at hwaiting'
      cases hwaiting'
      exact hn hn'

/-- The entries of the other ports owe what they owed. -/
theorem State.lastParts_of_bereaves {s t : State} {n m : DPort} {port : Downstream → Downstream}
    (h : s.Bereaves t n port (OttEntry.cutOff n)) (hm : m ≠ n) (y : UPort) :
    t.lastParts m y ottIndices = s.lastParts m y ottIndices := by
  have hcuts := OttEntry.cutOff_cuts n
  have hsame {k : Fin 128} (hk : (s.entry k).egress = m) : t.entry k = s.entry k := by
    rw [h.entry, hcuts.other _ (hk ▸ hm)]
  have howes : ottIndices.filter (t.owes m y) = ottIndices.filter (s.owes m y) := List.filter_congr fun k _ => by
    by_cases hk : (s.entry k).egress = m
    · rw [State.owes, State.owes, hsame hk]
    · have hk' : (t.entry k).egress ≠ m := by rwa [h.entry, hcuts.egress]
      rw [State.owes, State.owes, beq_eq_false_iff_ne.mpr hk, beq_eq_false_iff_ne.mpr hk', Bool.and_false, Bool.and_false,
        Bool.false_and, Bool.false_and]
  rw [State.lastParts, State.lastParts, howes]
  refine List.map_congr_left fun k hk => ?_
  have howed := List.of_mem_filter hk
  simp only [State.owes, Bool.and_eq_true, beq_iff_eq] at howed
  rw [State.lastPart, State.lastPart, hsame howed.1.2]

/-- A head waits for one port alone. -/
theorem State.waitsFor_unique {s : State} {y : UPort} {n m : DPort} (hn : s.waitsFor y n = true) (hm : s.waitsFor y m = true) :
    m = n := by
  obtain ⟨r, d, hhead, rfl⟩ := State.waitsFor_iff.mp hn
  obtain ⟨r', d', hhead', rfl⟩ := State.waitsFor_iff.mp hm
  rw [hhead] at hhead'
  cases hhead'
  rfl

theorem State.waitParts_of_not_waitsFor {s : State} {n : DPort} {y : UPort} (h : s.waitsFor y n = false) :
    s.waitParts n y = [] := by
  unfold State.waitParts
  split
  · next r d hhead =>
    refine if_neg fun hn => ?_
    rw [State.waitsFor_iff.mpr ⟨r, d, hhead, hn⟩] at h
    cases h
  · rfl

/-- What the link-down of Dn leaves of the heads that wait for other ports. -/
theorem State.Bereaves.waitsFor_ne {s t : State} {n m : DPort} {port : Downstream → Downstream} {end_ : OttEntry → OttEntry}
    (h : s.Bereaves t n port end_) (hm : m ≠ n) (y : UPort) :
    t.waitsFor y m = s.waitsFor y m ∧ t.waitParts m y = s.waitParts m y := by
  have hhead := h.waitingHead y
  by_cases hwaits : s.waitsFor y n = true
  · have hs : s.waitsFor y m = false := Bool.eq_false_iff.mpr fun hsm => hm (State.waitsFor_unique hwaits hsm)
    rw [if_pos hwaits] at hhead
    have ht : t.waitsFor y m = false := by rw [State.waitsFor, hhead]
    exact ⟨ht.trans hs.symm, by rw [State.waitParts_of_not_waitsFor hs, State.waitParts_of_not_waitsFor ht]⟩
  · rw [if_neg hwaits] at hhead
    exact ⟨by rw [State.waitsFor, State.waitsFor, hhead], by rw [State.waitParts, State.waitParts, hhead]⟩

theorem State.emit_unavailableParts (s : State) (o : Output) (n : DPort) (y : UPort) :
    (s.emit o).unavailableParts n y = s.unavailableParts n y := rfl

theorem State.emit_waitsFor (s : State) (o : Output) (y : UPort) (n : DPort) : (s.emit o).waitsFor y n = s.waitsFor y n := rfl

/-- The forced link-down of a port that is UP, as the ports and the physical layer see it (R131). -/
theorem State.forceDown_eq {s : State} {n : DPort} (h : (s.down.get n).link = .up) :
    s.forceDown n = (s.linkDown n).emit (.reestablish n) := if_pos h

theorem State.forceDown_of_down {s : State} {n : DPort} (h : (s.down.get n).link ≠ .up) : s.forceDown n = s := if_neg h

/-! ### The forced link-downs, D0 to D3 (R187) -/

/-- The ports of l that are UP. -/
def State.linked (s : State) (l : List DPort) : List DPort := l.filter fun n => (s.down.get n).link == .up

/-- The parts that the link-downs place for requester y. -/
def State.linkParts (s : State) (l : List DPort) (y : UPort) : List Part :=
  (s.linked l).flatMap fun n => s.unavailableParts n y

/-- The number of heads of Uy that the link-downs resolve. -/
def State.linkHeads (s : State) (l : List DPort) (y : UPort) : Nat := (s.linked l).countP (s.waitsFor y)

theorem State.linked_cons_up {s : State} {n : DPort} {l : List DPort} (h : (s.down.get n).link = .up) :
    s.linked (n :: l) = n :: s.linked l := List.filter_cons_of_pos (by rw [h]; rfl)

theorem State.linked_cons_down {s : State} {n : DPort} {l : List DPort} (h : (s.down.get n).link ≠ .up) :
    s.linked (n :: l) = s.linked l := List.filter_cons_of_neg (by rwa [beq_iff_eq])

theorem State.linked_congr {s t : State} {l : List DPort} (h : ∀ m ∈ l, (t.down.get m).link = (s.down.get m).link) :
    t.linked l = s.linked l :=
  List.filter_congr fun m hm => by rw [h m hm]

theorem State.linkParts_congr {s t : State} {l : List DPort} {y : UPort}
    (hlink : ∀ m ∈ l, (t.down.get m).link = (s.down.get m).link)
    (hparts : ∀ m ∈ l, t.unavailableParts m y = s.unavailableParts m y) : t.linkParts l y = s.linkParts l y := by
  rw [State.linkParts, State.linkParts, State.linked_congr hlink]
  exact List.flatMap_congr fun m hm => hparts m (List.mem_of_mem_filter hm)

theorem State.linkHeads_congr {s t : State} {l : List DPort} {y : UPort}
    (hlink : ∀ m ∈ l, (t.down.get m).link = (s.down.get m).link)
    (hwaits : ∀ m ∈ l, t.waitsFor y m = s.waitsFor y m) : t.linkHeads l y = s.linkHeads l y := by
  rw [State.linkHeads, State.linkHeads, State.linked_congr hlink]
  exact List.countP_congr fun m hm => by rw [hwaits m (List.mem_of_mem_filter hm)]

theorem State.foldl_forceDown_answers {l : List DPort} (hl : l.Nodup) (s : State) (y : UPort)
    (hroom : (s.up.get y).returnQueue.length + (s.linkParts l y).length ≤ 576) :
    (s.up.get y).Answers ((l.foldl State.forceDown s).up.get y) (s.linkParts l y) (s.linkHeads l y) := by
  induction l generalizing s with
  | nil => exact .refl _
  | cons n l ih =>
    obtain ⟨hn, hl⟩ := List.nodup_cons.mp hl
    rw [List.foldl_cons]
    by_cases hlink : (s.down.get n).link = .up
    · have hb := s.linkDown_bereaves n
      have hothers {m : DPort} (hm : m ∈ l) : m ≠ n := ne_of_mem_of_not_mem hm hn
      have hlinks : ∀ m ∈ l, ((s.forceDown n).down.get m).link = (s.down.get m).link := fun m hm => by
        rw [State.forceDown_link, if_neg (hothers hm)]
      rw [State.forceDown_eq hlink] at hlinks ⊢
      have hparts : ((s.linkDown n).emit (.reestablish n)).linkParts l y = s.linkParts l y :=
        State.linkParts_congr hlinks fun m hm => by
          rw [State.emit_unavailableParts, State.unavailableParts_eq, State.unavailableParts_eq,
            State.lastParts_of_bereaves hb (hothers hm), (hb.waitsFor_ne (hothers hm) y).2]
      have hheads : ((s.linkDown n).emit (.reestablish n)).linkHeads l y = s.linkHeads l y :=
        State.linkHeads_congr hlinks fun m hm => by rw [State.emit_waitsFor, (hb.waitsFor_ne (hothers hm) y).1]
      have hcons : s.linkParts (n :: l) y = s.unavailableParts n y ++ s.linkParts l y := by
        rw [State.linkParts, State.linked_cons_up hlink, List.flatMap_cons]
        rfl
      have hcount : s.linkHeads (n :: l) y = (if s.waitsFor y n then 1 else 0) + s.linkHeads l y := by
        rw [State.linkHeads, State.linked_cons_up hlink, List.countP_cons, Nat.add_comm]
        rfl
      rw [hcons, List.length_append] at hroom
      rw [hcons, hcount]
      have hfirst := State.bereft_answers (s := s) (n := n) (y := y) (by omega)
      rw [← hb.up] at hfirst
      have hrest := ih hl ((s.linkDown n).emit (.reestablish n)) (by
        rw [hparts, State.emit_up, hfirst.returnQueue, List.length_append]
        omega)
      rw [hparts, hheads] at hrest
      rw [← State.emit_up (s.linkDown n) (.reestablish n)] at hfirst
      exact hfirst.trans hrest
    · rw [State.forceDown_of_down hlink]
      rw [State.linkParts, State.linked_cons_down hlink] at hroom
      rw [State.linkParts, State.linkHeads, State.linked_cons_down hlink]
      exact ih hl s hroom

/-- The downstream ports once the links of l have been forced DOWN. -/
theorem State.foldl_forceDown_down {l : List DPort} (hl : l.Nodup) (s : State) (m : DPort) :
    (l.foldl State.forceDown s).down.get m =
      if m ∈ l ∧ (s.down.get m).link = .up then (s.down.get m).unlinked.flushed else s.down.get m := by
  induction l generalizing s with
  | nil => rw [List.foldl_nil, if_neg fun h => List.not_mem_nil h.1]
  | cons n l ih =>
    obtain ⟨hn, hl⟩ := List.nodup_cons.mp hl
    have hstep : (s.forceDown n).down.get m =
        if m = n ∧ (s.down.get m).link = .up then (s.down.get m).unlinked.flushed else s.down.get m := by
      by_cases hlink : (s.down.get n).link = .up
      · rw [State.forceDown_eq hlink, State.emit_down, (s.linkDown_bereaves n).down]
        by_cases hm : m = n
        · subst hm
          rw [PerDown.get_modify_self, if_pos ⟨rfl, hlink⟩]
        · rw [PerDown.get_modify_ne _ _ hm, if_neg fun h => hm h.1]
      · rw [State.forceDown_of_down hlink, if_neg]
        rintro ⟨rfl, hup⟩
        exact hlink hup
    rw [List.foldl_cons, ih hl, hstep]
    by_cases hm : m = n
    · subst hm
      simp only [hn, false_and, if_false, true_and, List.mem_cons_self]
    · simp only [hm, false_and, if_false, List.mem_cons, false_or]

/-- Each link that is forced DOWN is asked to be re-established (R131). -/
theorem State.foldl_forceDown_outputs {l : List DPort} (hl : l.Nodup) (s : State) :
    (l.foldl State.forceDown s).outputs = ((s.linked l).map Output.reestablish).reverse ++ s.outputs := by
  induction l generalizing s with
  | nil => rfl
  | cons n l ih =>
    obtain ⟨hn, hl⟩ := List.nodup_cons.mp hl
    rw [List.foldl_cons, ih hl]
    by_cases hlink : (s.down.get n).link = .up
    · have hlinks : (s.forceDown n).linked l = s.linked l := State.linked_congr fun m hm => by
        rw [State.forceDown_link, if_neg (ne_of_mem_of_not_mem hm hn)]
      rw [hlinks, State.linked_cons_up hlink, State.forceDown_eq hlink, List.map_cons, List.reverse_cons, List.append_assoc]
      have hemitted : ((s.linkDown n).emit (.reestablish n)).outputs = .reestablish n :: (s.linkDown n).outputs := rfl
      rw [hemitted, (s.linkDown_bereaves n).carries.outputs]
      rfl
    · rw [State.forceDown_of_down hlink, State.linked_cons_down hlink]

/-- The link-downs resolve the head of Uy where the port that it waits for is UP. -/
theorem State.linkHeads_all (s : State) (y : UPort) :
    s.linkHeads DPort.all y =
      match s.waitingHead y with
      | some (_, d) => if (s.down.get d.egress).link = .up then 1 else 0
      | none => 0 := by
  cases hhead : s.waitingHead y with
  | none =>
    refine List.countP_eq_zero.mpr fun n _ hwaits => ?_
    rw [State.waitsFor, hhead] at hwaits
    cases hwaits
  | some p =>
    obtain ⟨r, d⟩ := p
    have hwaits (n : DPort) : s.waitsFor y n = (d.egress == n) := by simp only [State.waitsFor, hhead]
    rw [State.linkHeads, State.linked, List.countP_filter]
    have hpoint : (DPort.all.countP fun n => s.waitsFor y n && ((s.down.get n).link == .up)) =
        DPort.all.countP fun n => n == d.egress && ((s.down.get d.egress).link == .up) :=
      List.countP_congr fun n _ => by
        rw [hwaits]
        by_cases hn : n = d.egress
        · rw [hn]
        · rw [beq_eq_false_iff_ne.mpr hn, beq_eq_false_iff_ne.mpr (Ne.symm hn), Bool.false_and, Bool.false_and]
    rw [hpoint]
    by_cases hlink : (s.down.get d.egress).link = .up
    · simp only [hlink, beq_self_eq_true, Bool.and_true, if_true]
      exact List.count_eq_one_of_mem DPort.nodup_all (DPort.mem_all _)
    · simp only [hlink, beq_eq_false_iff_ne.mpr hlink, Bool.and_false, if_false]
      exact congrFun List.countP_false _

/-! ### The ingress queues (R68, R188) -/

/-- A port whose queued request is answered (R68). -/
def Upstream.softAnswered (u : Upstream) (r : Request) : Upstream :=
  { u.receiveAll (finalParts r .unavailable) with
    pendingCredits := satInc (u.receiveAll (finalParts r .unavailable)).pendingCredits }

/-- A port whose ingress queue has been answered (R68). -/
def Upstream.drained (u : Upstream) : Upstream :=
  { u.ingress.foldl Upstream.softAnswered u with ingress := [], waiting := none }

theorem State.foldl_softAnswer_up (x : UPort) (l : List Request) (s : State) :
    (l.foldl (State.softAnswer x) s).up = s.up.modify x fun u => l.foldl Upstream.softAnswered u := by
  induction l generalizing s with
  | nil => exact (PerUp.modify_id _ rfl).symm
  | cons r l ih =>
    have hone : (s.softAnswer x r).up = s.up.modify x (Upstream.softAnswered · r) := by
      rw [State.softAnswer, State.onUp_up, State.answer_up, PerUp.modify_modify]
      rfl
    rw [List.foldl_cons, ih, hone, PerUp.modify_modify]
    rfl

theorem State.softQueue_up (s : State) (x : UPort) : (s.softQueue x).up = s.up.modify x Upstream.drained := by
  refine PerUp.ext_get fun y => ?_
  rw [State.softQueue, State.onUp_up, State.foldl_softAnswer_up, PerUp.modify_modify, PerUp.get_modify, PerUp.get_modify]
  split
  · next hy =>
    rw [hy]
    rfl
  · rfl

theorem State.softQueues_up (s : State) (y : UPort) :
    ((s.softQueue .u0).softQueue .u1).up.get y = (s.up.get y).drained := by
  rw [State.softQueue_up, State.softQueue_up]
  cases y <;> rfl

theorem State.softQueue_outputs (s : State) (x : UPort) : (s.softQueue x).outputs = s.outputs := by
  have hone (t : State) (r : Request) : (t.softAnswer x r).outputs = t.outputs := (t.answer_carries x r .unavailable).outputs
  exact foldl_keeps State.outputs _ hone _ s

theorem State.softQueue_down (s : State) (x : UPort) : (s.softQueue x).down = s.down :=
  foldl_keeps State.down (State.softAnswer x) (fun t r => t.answer_down x r .unavailable) _ s

theorem Upstream.foldl_softAnswered {l : List Request} {u : Upstream}
    (hroom : u.returnQueue.length + (l.flatMap fun q => finalParts q .unavailable).length ≤ 576) :
    l.foldl Upstream.softAnswered u =
      { u with
        returnQueue := u.returnQueue ++ l.flatMap fun q => finalParts q .unavailable
        pendingCredits := satAdd u.pendingCredits l.length } := by
  induction l generalizing u with
  | nil => rw [List.foldl_nil, List.flatMap_nil, List.append_nil, List.length_nil, satAdd_zero]
  | cons r l ih =>
    rw [List.flatMap_cons, List.length_append] at hroom
    have hone : u.softAnswered r =
        { u with returnQueue := u.returnQueue ++ finalParts r .unavailable, pendingCredits := satInc u.pendingCredits } := by
      rw [Upstream.softAnswered, Upstream.receiveAll_of_room (by omega)]
    rw [List.foldl_cons, hone, ih (by rw [List.length_append]; omega)]
    simp only [List.flatMap_cons, List.append_assoc, List.length_cons, satInc, satAdd_satAdd, Nat.add_comm 1]

/-- Soft reset answers every request that is left in a queue with room (R68). -/
theorem Upstream.drained_of_room {u : Upstream}
    (hroom : u.returnQueue.length + (u.ingress.flatMap fun q => finalParts q .unavailable).length ≤ 576) :
    u.drained =
      { u with
        ingress := []
        waiting := none
        returnQueue := u.returnQueue ++ u.ingress.flatMap fun q => finalParts q .unavailable
        pendingCredits := satAdd u.pendingCredits u.ingress.length } := by
  rw [Upstream.drained, Upstream.foldl_softAnswered hroom]

end Sys2Proof.Machine
end

section
/-! PROOFS. Soft reset, settled (R68, R91, R135, R165, R177, R187, R188). -/

namespace Sys2Proof.Machine

-- One after another: checked side by side, the theorems exceed the memory limit of check.sh.
set_option Elab.async false

/-! ### The head that carries the command -/

/-- The bridge when the forced link-downs begin: the command is recorded and answered, and its head has left (R187). -/
def State.softBegun (s : State) (x : UPort) (r : Request) (v : Word) : State :=
  ((s.recordCommand v).answer x r .ok).popHead x

section
variable (s : State) (x : UPort) (r : Request) (v : Word)

theorem State.softBegun_down : (s.softBegun x r v).down = s.down := State.answer_down _ _ _ _

theorem State.softBegun_entry (k : Fin 128) : (s.softBegun x r v).entry k = s.entry k := State.answer_entry _ _ _ _ k

theorem State.softBegun_outputs : (s.softBegun x r v).outputs = s.outputs := ((s.recordCommand v).answer_carries x r .ok).outputs

theorem State.softBegun_kept : (s.softBegun x r v).kept = (s.recordCommand v).kept := by
  rw [State.softBegun, State.popHead_kept, State.answer_kept]

theorem State.softBegun_up (y : UPort) : (s.softBegun x r v).up.get y =
    if y = x then
      { (s.up.get y).receiveAll (finalParts r .ok) with
        ingress := ((s.up.get y).receiveAll (finalParts r .ok)).ingress.tail
        waiting := none
        pendingCredits := satInc ((s.up.get y).receiveAll (finalParts r .ok)).pendingCredits }
    else s.up.get y := by
  rw [State.softBegun, State.popHead, State.onUp_up, State.answer_up, PerUp.modify_modify, PerUp.get_modify]
  split
  · next hy =>
    rw [hy]
    rfl
  · rfl

end

/-- The OK part comes to the port of the head, with room, and the head leaves (R187). -/
theorem State.softBegun_answers {s : State} {x : UPort} {r : Request} (v : Word) (y : UPort)
    (hroom : (s.up.get y).returnQueue.length + (if y = x then finalParts r .ok else []).length ≤ 576) :
    (s.up.get y).Answers ((s.softBegun x r v).up.get y) (if y = x then finalParts r .ok else []) (if y = x then 1 else 0) := by
  rw [State.softBegun_up]
  split
  · next hy =>
    rw [if_pos hy] at hroom
    refine ⟨(s.up.get y).counters, ?_⟩
    rw [Upstream.receiveAll_of_room hroom, Upstream.answered, if_neg Nat.one_ne_zero, List.drop_one]
    rfl
  · exact .refl _

/-- Neither head waits anew, and that of Ux did not wait. -/
theorem State.softBegun_waitingHead {s : State} {x : UPort} {r : Request} (hhead : s.undecodedHead x = some r) (v : Word)
    (y : UPort) : (s.softBegun x r v).waitingHead y = s.waitingHead y := by
  by_cases hy : y = x
  · subst hy
    obtain ⟨tail, hqueue, hnone⟩ := State.undecodedHead_eq_some_iff.mp hhead
    have hs : s.waitingHead y = none := by rw [State.waitingHead, hnone, hqueue]
    have ht : ((s.softBegun y r v).up.get y).waiting = none := by rw [State.softBegun_up, if_pos rfl]
    rw [hs, State.waitingHead, ht]
    cases ((s.softBegun y r v).up.get y).ingress <;> rfl
  · exact State.waitingHead_of_get (by rw [State.softBegun_up, if_neg hy])

/-! ### The forced link-downs and the fences cleared (R135, R187) -/

theorem State.softDownstream_up (s : State) : s.softDownstream.up = (DPort.all.foldl State.forceDown s).up := by
  simp only [State.softDownstream]

theorem State.softDownstream_down (s : State) (n : DPort) :
    s.softDownstream.down.get n = ((DPort.all.foldl State.forceDown s).down.get n).clearFence := by
  simp only [State.softDownstream, PerDown.get_map]

theorem State.softDownstream_outputs (s : State) :
    s.softDownstream.outputs = (DPort.all.foldl State.forceDown s).outputs := by
  simp only [State.softDownstream]

theorem State.clearFences_kept (s : State) : ({ s with down := s.down.map Downstream.clearFence } : State).kept = s.kept := rfl

theorem State.softDownstream_kept (s : State) : s.softDownstream.kept = s.kept :=
  (State.clearFences_kept _).trans (foldl_keeps State.kept _ State.forceDown_kept DPort.all s)

/-! ### The upstream ports -/

/-- The bridge at the end of step 3, before the soft-reset values (R187). -/
def State.softAnsweredAll (s : State) (x : UPort) (r : Request) (v : Word) : State :=
  ((s.softBegun x r v).softDownstream.softQueue .u0).softQueue .u1

/-- The link-downs place the parts that the statement names. -/
theorem State.softBegun_linkParts {s : State} {x : UPort} {r : Request} (hhead : s.undecodedHead x = some r) (v : Word)
    (y : UPort) : (s.softBegun x r v).linkParts DPort.all y = s.linkParts DPort.all y := by
  have hentry := s.softBegun_entry x r v
  refine State.linkParts_congr (fun m _ => by rw [State.softBegun_down]) fun m _ => ?_
  rw [State.unavailableParts_eq, State.unavailableParts_eq, State.lastParts_congr fun k _ => hentry k, State.waitParts,
    State.waitParts, State.softBegun_waitingHead hhead]

theorem State.softBegun_linkHeads {s : State} {x : UPort} {r : Request} (hhead : s.undecodedHead x = some r) (v : Word)
    (y : UPort) : (s.softBegun x r v).linkHeads DPort.all y = s.linkHeads DPort.all y :=
  State.linkHeads_congr (fun m _ => by rw [State.softBegun_down]) fun m _ => by
    rw [State.waitsFor, State.waitsFor, State.softBegun_waitingHead hhead]

/-- The heads of Uy that leave before soft reset comes to its ingress queue: the one that carries the command, or one that
waits for a port that is UP (R62, R187). -/
def State.softHeads (s : State) (x y : UPort) : Nat := (if y = x then 1 else 0) + s.linkHeads DPort.all y

/-- What soft reset finds in the ingress queue is what the statement names (R188). -/
theorem State.drop_softHeads {s : State} {x : UPort} {r : Request} (hhead : s.undecodedHead x = some r) (y : UPort) :
    (s.up.get y).ingress.drop (s.softHeads x y) = s.leftForSoftReset x y
      ∧ s.softHeads x y ≤ (s.up.get y).ingress.length := by
  obtain ⟨tail, hqueue, hnone⟩ := State.undecodedHead_eq_some_iff.mp hhead
  unfold State.softHeads State.leftForSoftReset
  rw [State.linkHeads_all]
  by_cases hy : y = x
  · subst hy
    have hs : s.waitingHead y = none := by rw [State.waitingHead, hnone, hqueue]
    rw [hs, if_pos rfl, if_pos rfl, Nat.add_zero, List.drop_one, hqueue]
    exact ⟨rfl, Nat.le_add_left _ _⟩
  · rw [if_neg hy, if_neg hy, Nat.zero_add]
    cases hwaiting : s.waitingHead y with
    | none => exact ⟨List.drop_zero, Nat.zero_le _⟩
    | some p =>
      obtain ⟨q, d⟩ := p
      obtain ⟨tail', hqueue', -⟩ := State.waitingHead_eq_some_iff.mp hwaiting
      dsimp only
      split
      · exact ⟨List.drop_one, by rw [hqueue']; exact Nat.le_add_left _ _⟩
      · exact ⟨List.drop_zero, Nat.zero_le _⟩

/-- An upstream port at the end of step 3, its counters apart (R68, R91, R187). -/
theorem State.softQueues_answer {s : State} {x : UPort} {r : Request} (hhead : s.undecodedHead x = some r) (v : Word) (y : UPort)
    (hroom : (s.up.get y).returnQueue.length + (s.softResetParts x r y).length ≤ 576) :
    ∃ counters, (s.softAnsweredAll x r v).up.get y =
      { s.up.get y with
        ingress := []
        waiting := none
        returnQueue := (s.up.get y).returnQueue ++ s.softResetParts x r y
        pendingCredits := satAdd (s.up.get y).pendingCredits (s.up.get y).ingress.length
        counters := counters } := by
  obtain ⟨hleft, hle⟩ := State.drop_softHeads hhead y
  have hlength : s.softHeads x y + (s.leftForSoftReset x y).length = (s.up.get y).ingress.length := by
    rw [← hleft, List.length_drop]
    omega
  have hparts : s.softResetParts x r y = (if y = x then finalParts r .ok else []) ++ s.linkParts DPort.all y
      ++ (s.leftForSoftReset x y).flatMap fun q => finalParts q .unavailable := rfl
  rw [hparts, List.length_append, List.length_append] at hroom
  have hbegun := State.softBegun_answers (s := s) (x := x) (r := r) v y (by omega)
  have hlinks := State.foldl_forceDown_answers DPort.nodup_all (s.softBegun x r v) y (by
    rw [hbegun.returnQueue, State.softBegun_linkParts hhead, List.length_append]
    omega)
  rw [State.softBegun_linkParts hhead, State.softBegun_linkHeads hhead] at hlinks
  obtain ⟨counters, hport⟩ := hbegun.trans hlinks
  rw [← State.softHeads] at hport
  refine ⟨counters, ?_⟩
  rw [State.softAnsweredAll, State.softQueues_up, State.softDownstream_up, hport, Upstream.drained_of_room]
  · simp only [Upstream.answered, hleft, hparts, List.append_assoc, satAdd_satAdd, hlength]
  · simp only [Upstream.answered, hleft, List.length_append]
    omega

/-! ### The end of the reset -/

/-- The capture unit is OFF when the write's own handing meets it (R150, R165). -/
theorem State.handRequest_of_off {s : State} (h : s.capture.state = .off) (g : Handing) : s.handRequest g = s := by
  rw [State.handRequest, State.hand, h]

theorem State.softValues_off (s : State) (x : UPort) (f : UpCounters → UpCounters) :
    (s.softValues.countUp x f).capture.state = .off := rfl

/-- The counters after step 4: MGMT_DONE counts the write that carried the command (R150, R187). -/
theorem State.softValues_countUp_up (s : State) (x y : UPort) (kind : ReqKind) :
    (s.softValues.countUp x fun c => c.countHead .mgmtDone kind).up.get y =
      { s.up.get y with counters := if y = x then { UpCounters.zero with mgmtDone := 1 } else UpCounters.zero } := by
  rw [State.countUp, State.onUp_up, PerUp.get_modify, State.softValues, PerUp.get_map]
  split <;> rfl

theorem State.softValues_countUp_down (s : State) (x : UPort) (f : UpCounters → UpCounters) (n : DPort) :
    (s.softValues.countUp x f).down.get n = { s.down.get n with admission := .u1, counters := DownCounters.zero } := by
  rw [State.countUp, State.onUp_down, State.softValues, PerDown.get_map]

theorem State.softReset_eq (s : State) (x : UPort) (r : Request) (v : Word) :
    s.softReset x r v = (s.softAnsweredAll x r v).softValues.countUp x fun c => c.countHead .mgmtDone r.kind := by
  unfold State.softReset
  exact State.handRequest_of_off (State.softValues_off _ x _) _

theorem State.softAnsweredAll_kept (s : State) (x : UPort) (r : Request) (v : Word) :
    (s.softAnsweredAll x r v).kept = (s.recordCommand v).kept := by
  rw [State.softAnsweredAll, State.softQueue_kept, State.softQueue_kept, State.softDownstream_kept, State.softBegun_kept]

/-- The soft-reset values of the capture unit rest on its settings alone (R165). -/
theorem Capture.soft_of_settings {c d : Capture} (h : d.settings = c.settings) : d.soft = c.soft := by
  simp only [Capture.settings, CaptureSettings.mk.injEq] at h
  simp only [Capture.soft, h]

/-- The soft-reset values of the notice unit rest on its settings alone (R177). -/
theorem NoticeUnit.soft_of_settings {u w : NoticeUnit} (henable : w.enable = u.enable) (haddr : w.addr = u.addr)
    (hport : w.port = u.port) (hrepeat : w.repeatMs = u.repeatMs) : w.soft = u.soft := by
  simp only [NoticeUnit.soft, henable, haddr, hport, hrepeat]

theorem State.softAnsweredAll_down (s : State) (x : UPort) (r : Request) (v : Word) (n : DPort) :
    (s.softAnsweredAll x r v).down.get n =
      (if (s.down.get n).link = .up then (s.down.get n).unlinked.flushed else s.down.get n).clearFence := by
  rw [State.softAnsweredAll, State.softQueue_down, State.softQueue_down, State.softDownstream_down,
    State.foldl_forceDown_down DPort.nodup_all, State.softBegun_down]
  simp only [DPort.mem_all, true_and]

theorem State.softAnsweredAll_outputs (s : State) (x : UPort) (r : Request) (v : Word) :
    (s.softAnsweredAll x r v).outputs = ((s.linked DPort.all).map Output.reestablish).reverse ++ s.outputs := by
  rw [State.softAnsweredAll, State.softQueue_outputs, State.softQueue_outputs, State.softDownstream_outputs,
    State.foldl_forceDown_outputs DPort.nodup_all, State.softBegun_outputs,
    State.linked_congr (s := s) fun m _ => by rw [State.softBegun_down]]

/-- SOFT_RESET is done (R185). -/
theorem State.recordCommand_of_softReset {s : State} {v : Word} (hv : Command.ofCode (commandCode v).toNat = some .softReset) :
    s.recordCommand v = s.recorded v .done := by
  rw [State.recordCommand, State.outcomeOf, hv]
  rfl

/-- Settles O49. -/
theorem softResetLeavesTheSoftValues : Obligations.SoftResetLeavesTheSoftValues := by
  unfold Obligations.SoftResetLeavesTheSoftValues
  intro x v r s hpresents hcode hroom
  have hv : Command.ofCode (commandCode v).toNat = some .softReset := congrArg Command.ofCode hcode
  have hrow : rowOfWrite x .command v = some (.softReset x) := by
    have hv' : Command.ofCode (v.extractLsb' 0 8).toNat = some .softReset := hv
    simp only [rowOfWrite, hv']
  have hreset : s.performWrite x r .command v = s.softReset x r v := if_pos ⟨rfl, hv⟩
  obtain ⟨⟨⟨hheld, hhead, -⟩, -⟩, -⟩ := id hpresents
  have hexec := (hpresents.exec_row hrow).trans (congrArg _ (hreset.trans (s.softReset_eq x r v)))
  have hkept := s.softAnsweredAll_kept x r v
  have hup (y : UPort) := State.softQueues_answer hhead v y (hroom y)
  have hdown := s.softAnsweredAll_down x r v
  have houtputs := s.softAnsweredAll_outputs x r v
  generalize s.softAnsweredAll x r v = t at hexec hkept hup hdown houtputs
  have hrecorded : (s.recordCommand v).settings = s.settings := rfl
  have hsettings := (State.kept_settings hkept).trans hrecorded
  have hstrap := State.kept_strap hkept
  have hpending := State.kept_pending hkept
  refine ⟨_, hexec, fun y => ?_, fun n => ?_, fun i => ?_, fun k => ?_, rfl, ?_, ?_, rfl, ?_,
    congrArg Settings.mgmtBase hsettings, congrArg Settings.mgmtBaseHi hsettings, congrArg Settings.mgmtPermit hsettings, hstrap,
    (State.kept_held hkept).trans hheld, houtputs, hpending⟩
  · obtain ⟨counters, hport⟩ := hup y
    rw [State.softValues_countUp_up, hport]
  · rw [State.softValues_countUp_down, hdown]
    split <;> rfl
  · exact Vector.getElem_replicate _
  · exact Vector.getElem_replicate _
  · exact Capture.soft_of_settings (congrArg Settings.capture hsettings)
  · exact NoticeUnit.soft_of_settings (congrArg Settings.enable hsettings) (congrArg Settings.noticeAddr hsettings)
      (congrArg Settings.noticePort hsettings) (congrArg Settings.repeatMs hsettings)
  · exact (State.kept_command hkept).trans (congrArg State.command (State.recordCommand_of_softReset hv))

end Sys2Proof.Machine
end

section
/-! PROOFS. What an arriving part finds in the table (R78, R81): its class, and whether it fits its entry. -/

namespace Sys2Proof.Machine

-- One after another: checked side by side, the theorems exceed the memory limit of check.sh.
set_option Elab.async false

/-! ### The class of a part (R78) -/

theorem State.classify_eq_stray_iff {s : State} {n : DPort} {tag : Tag} :
    s.classify n tag = .stray ↔
      128 ≤ tag.toNat ∨ ∃ k : Fin 128, k.val = tag.toNat
        ∧ ((s.entry k).state = .free ∨ (s.entry k).state = .pending ∨ (s.entry k).egress ≠ n) := by
  unfold State.classify
  dsimp only
  split
  · next htag =>
    have hindex (k : Fin 128) (hk : k.val = tag.toNat) : k = ⟨tag.toNat, htag⟩ := Fin.ext hk
    rw [or_iff_right (Nat.not_le.mpr htag)]
    refine Iff.trans ?_ ⟨fun h => ⟨⟨tag.toNat, htag⟩, rfl, h⟩, fun ⟨k, hk, h⟩ => hindex k hk ▸ h⟩
    split
    · next hegress => exact iff_of_true rfl (.inr (.inr hegress))
    · next hegress =>
      cases hstate : (s.entry ⟨tag.toNat, htag⟩).state <;> simp [not_not.mp hegress]
  · next htag => exact iff_of_true rfl (.inl (Nat.not_lt.mp htag))

/-- The class of a part whose tag names an entry of the port that it arrives on. -/
theorem State.classify_of_entry {s : State} {n : DPort} {tag : Tag} {k : Fin 128} (htag : k.val = tag.toNat)
    (hn : (s.entry k).egress = n) :
    ((s.entry k).state = .orphan → s.classify n tag = .late k)
      ∧ ((s.entry k).state = .issued ∨ (s.entry k).state = .streaming → s.classify n tag = .live k) := by
  have hlt : tag.toNat < 128 := htag ▸ k.isLt
  have hk : (⟨tag.toNat, hlt⟩ : Fin 128) = k := Fin.ext htag.symm
  unfold State.classify
  simp only [dif_pos hlt, hk, if_neg (not_not.mpr hn)]
  exact ⟨fun h => by rw [h], fun h => by rcases h with h | h <;> rw [h]⟩

/-- A late part finds an orphan, and a live part an entry that is ISSUED or STREAMING (R78). -/
theorem State.state_of_classify {s : State} {n : DPort} {tag : Tag} {k : Fin 128} :
    (s.classify n tag = .late k → (s.entry k).state = .orphan)
      ∧ (s.classify n tag = .live k → (s.entry k).state = .issued ∨ (s.entry k).state = .streaming) := by
  unfold State.classify
  dsimp only
  split
  · split
    · exact ⟨nofun, nofun⟩
    · cases hstate : (s.entry _).state with
      | free | pending => exact ⟨nofun, nofun⟩
      | orphan => exact ⟨fun h => by cases h; exact hstate, nofun⟩
      | issued => exact ⟨nofun, fun h => by cases h; exact .inl hstate⟩
      | streaming => exact ⟨nofun, fun h => by cases h; exact .inr hstate⟩
  · exact ⟨nofun, nofun⟩

end Sys2Proof.Machine
end

section
/-! PROOFS. Egress items and PENDING entries (R76, R112, R119): the queues and the entries that wait in them, what leaves both
as they are, and the items that an allocation event brings. -/

namespace Sys2Proof.Machine

-- One after another: checked side by side, the theorems exceed the memory limit of check.sh.
set_option Elab.async false

/-! ### The queues and the entries that wait in them -/

/-- The port whose egress queue holds the item of an entry, if it is PENDING (R76). -/
def OttEntry.queued (e : OttEntry) : Option DPort := if e.state = .pending then some e.egress else none

theorem OttEntry.queued_eq_some_iff {e : OttEntry} {n : DPort} : e.queued = some n ↔ e.state = .pending ∧ e.egress = n := by
  rw [OttEntry.queued, Option.ite_none_right_eq_some, Option.some.injEq]

theorem OttEntry.queued_eq_none_iff {e : OttEntry} : e.queued = none ↔ e.state ≠ .pending := by
  rw [OttEntry.queued, ite_eq_right_iff]
  exact forall_congr' fun _ => iff_of_false nofun id

theorem OttEntry.queued_of_state {e : OttEntry} {state : EntryState} (h : e.state = state) (hne : state ≠ .pending) :
    e.queued = none := OttEntry.queued_eq_none_iff.mpr (h ▸ hne)

/-- The number of items that stand for entry k in the egress queue of Dn. -/
def State.itemsFor (s : State) (n : DPort) (k : Fin 128) : Nat := (s.down.get n).egress.countP (EgressItem.standsFor k)

theorem State.itemsMatch_iff {s : State} :
    s.ItemsMatch ↔
      (∀ n k, s.itemsFor n k = if (s.entry k).queued = some n then 1 else 0)
        ∧ ∀ n, (s.down.get n).link = .down → (s.down.get n).egress = [] := by
  simp only [State.ItemsMatch, State.itemsFor, OttEntry.queued_eq_some_iff]

/-- What R76 and R119 speak of: the links and the egress queues of the downstream ports, and the queue of each entry. -/
structure Stock where
  ports  : PerDown (LinkState × List EgressItem)
  queued : Fin 128 → Option DPort

/-- The egress items of a state and the entries that they stand for. -/
def State.stock (s : State) : Stock where
  ports := s.down.map fun d => (d.link, d.egress)
  queued := fun k => (s.entry k).queued

theorem State.stock_queued {s t : State} (h : t.stock = s.stock) (k : Fin 128) : (t.entry k).queued = (s.entry k).queued :=
  congrFun (congrArg Stock.queued h) k

theorem State.stock_port {s t : State} (h : t.stock = s.stock) (n : DPort) :
    (t.down.get n).link = (s.down.get n).link ∧ (t.down.get n).egress = (s.down.get n).egress := by
  have hport := congrArg (PerDown.get · n) (congrArg Stock.ports h)
  simpa only [State.stock, PerDown.get_map, Prod.mk.injEq] using hport

theorem State.ItemsMatch.of_stock {s t : State} (h : s.ItemsMatch) (hst : t.stock = s.stock) : t.ItemsMatch := by
  obtain ⟨hitems, hdown⟩ := State.itemsMatch_iff.mp h
  refine State.itemsMatch_iff.mpr ⟨fun n k => ?_, fun n => ?_⟩
  · rw [State.itemsFor, (State.stock_port hst n).2, State.stock_queued hst]
    exact hitems n k
  · obtain ⟨hlink, hegress⟩ := State.stock_port hst n
    rw [hlink, hegress]
    exact hdown n

/-- With the queues empty and no entry PENDING. -/
theorem State.ItemsMatch.of_empty {s : State} (hentry : ∀ k, (s.entry k).queued = none)
    (hegress : ∀ n, (s.down.get n).egress = []) : s.ItemsMatch := by
  refine State.itemsMatch_iff.mpr ⟨fun n k => ?_, fun n _ => hegress n⟩
  rw [State.itemsFor, hegress, hentry, if_neg nofun]
  rfl

/-! ### What leaves the items and their entries -/

theorem State.stock_of_same {s t : State} (hdown : t.down = s.down) (hott : t.ott = s.ott) : t.stock = s.stock := by
  simp only [State.stock, hdown, State.entry_congr hott]

theorem State.onDown_stock (s : State) (n : DPort) {f : Downstream → Downstream}
    (h : ∀ d, (f d).link = d.link ∧ (f d).egress = d.egress) : (s.onDown n f).stock = s.stock := by
  have hports : (s.down.modify n f).map (fun d => (d.link, d.egress)) = s.down.map fun d => (d.link, d.egress) :=
    PerDown.ext_get fun m => by
      rw [PerDown.get_map, PerDown.get_map, PerDown.get_modify]
      split
      · rw [(h _).1, (h _).2]
      · rfl
  exact congrArg (Stock.mk · _) hports

theorem State.onEntry_stock (s : State) {k : Fin 128} {f : OttEntry → OttEntry}
    (h : (f (s.entry k)).queued = (s.entry k).queued) : (s.onEntry k f).stock = s.stock := by
  have hqueued : (fun j => ((s.onEntry k f).entry j).queued) = fun j => (s.entry j).queued := funext fun j => by
    rw [State.entry_onEntry]
    split
    · next hj => rw [h, hj]
    · rfl
  exact congrArg (Stock.mk _) hqueued

section
variable (s : State)

@[simp] theorem State.onUp_stock (x : UPort) (f : Upstream → Upstream) : (s.onUp x f).stock = s.stock := rfl
@[simp] theorem State.countUp_stock (x : UPort) (f : UpCounters → UpCounters) : (s.countUp x f).stock = s.stock := rfl
@[simp] theorem State.onWindow_stock (i : Fin 16) (f : WindowEntry → WindowEntry) : (s.onWindow i f).stock = s.stock := rfl
@[simp] theorem State.onCapture_stock (f : Capture → Capture) : (s.onCapture f).stock = s.stock := rfl
@[simp] theorem State.onNotice_stock (f : NoticeUnit → NoticeUnit) : (s.onNotice f).stock = s.stock := rfl
@[simp] theorem State.emit_stock (o : Output) : (s.emit o).stock = s.stock := rfl
@[simp] theorem State.raise_stock (c : Cause) : (s.raise c).stock = s.stock := rfl

@[simp] theorem State.countDown_stock (n : DPort) (f : DownCounters → DownCounters) : (s.countDown n f).stock = s.stock :=
  s.onDown_stock n fun _ => ⟨rfl, rfl⟩

@[simp] theorem State.placePart_stock (x : UPort) (p : Part) : (s.placePart x p).stock = s.stock :=
  State.stock_of_same (s.placePart_down x p) (s.placePart_ott x p)

@[simp] theorem State.placeParts_stock (x : UPort) (ps : List Part) : (s.placeParts x ps).stock = s.stock :=
  foldl_keeps State.stock _ (fun t p => t.placePart_stock x p) ps s

@[simp] theorem State.answer_stock (x : UPort) (r : Request) (status : Status) : (s.answer x r status).stock = s.stock :=
  State.stock_of_same (s.answer_down x r status) (s.answer_ott x r status)

@[simp] theorem State.handRequest_stock (g : Handing) : (s.handRequest g).stock = s.stock :=
  State.stock_of_same (s.handRequest_down g) (s.handRequest_ott g)

@[simp] theorem State.resolveHead_stock (x : UPort) (r : Request) (code : WindowCode) (d : Disposition) (cause : Option Cause)
    (forward : Option ForwardInfo) : (s.resolveHead x r code d cause forward).stock = s.stock :=
  State.stock_of_same (s.resolveHead_down x r code d cause forward) (s.resolveHead_ott x r code d cause forward)

@[simp] theorem State.refuseHead_stock (x : UPort) (r : Request) (code : WindowCode) (d : Disposition) (status : Status) :
    (s.refuseHead x r code d status).stock = s.stock :=
  State.stock_of_same (s.refuseHead_down x r code d status) (s.refuseHead_ott x r code d status)

@[simp] theorem State.complete_stock (k : Fin 128) (status : Status) : (s.complete k status).stock = s.stock := by
  unfold State.complete
  split
  · rw [State.onEntry_stock _ rfl]
    exact State.stock_of_same (s.handCompletion_down k status) (s.hand_ott _ _ _)
  · rfl

@[simp] theorem State.retire_stock (k : Fin 128) (status : Status) : (s.retire k status).stock = s.stock := by
  simp only [State.retire, State.complete_stock, State.placePart_stock]

@[simp] theorem State.recoverTest_stock (n : DPort) : (s.recoverTest n).stock = s.stock := by
  unfold State.recoverTest
  dsimp only
  split
  · exact s.onDown_stock n fun _ => ⟨rfl, rfl⟩
  · rfl

@[simp] theorem State.degradeTest_stock (n : DPort) : (s.degradeTest n).stock = s.stock := by
  unfold State.degradeTest
  dsimp only
  split
  · exact s.onDown_stock n fun _ => ⟨rfl, rfl⟩
  · rfl

@[simp] theorem State.countGood_stock (n : DPort) : (s.countGood n).stock = s.stock := by
  rw [State.countGood, State.recoverTest_stock]
  exact s.onDown_stock n fun _ => ⟨rfl, rfl⟩

@[simp] theorem State.protocolErrorUp_stock (x : UPort) : (s.protocolErrorUp x).stock = s.stock := rfl

@[simp] theorem State.protocolErrorDown_stock (n : DPort) : (s.protocolErrorDown n).stock = s.stock := by
  rw [State.protocolErrorDown, State.raise_stock, State.countDown_stock]

@[simp] theorem State.requestArrives_stock (x : UPort) (r : Request) : (s.requestArrives x r).stock = s.stock := by
  unfold State.requestArrives
  split <;> simp

@[simp] theorem State.crArrivesUp_stock (x : UPort) (count : BitVec 7) : (s.crArrivesUp x count).stock = s.stock := by
  unfold State.crArrivesUp
  split <;> simp

@[simp] theorem State.sendCr_stock (x : UPort) : (s.sendCr x).stock = s.stock := rfl

@[simp] theorem State.sendPart_stock (x : UPort) : (s.sendPart x).stock = s.stock := by
  unfold State.sendPart
  split <;> simp

@[simp] theorem State.sendNotice_stock (x : UPort) : (s.sendNotice x).stock = s.stock := by
  unfold State.sendNotice
  split <;> simp

@[simp] theorem State.repeatExpire_stock : s.repeatExpire.stock = s.stock := by
  unfold State.repeatExpire
  split <;> simp

@[simp] theorem State.advance_stock : s.advance.stock = s.stock := by
  rcases s.advance_only with h | h <;> rw [h]
  rfl

@[simp] theorem State.zeroFill_stock (x : UPort) (r : Request) : (s.zeroFill x r).stock = s.stock := by
  unfold State.zeroFill
  rw [State.resolveHead_stock]
  split <;> simp

@[simp] theorem State.upstreamLinkUp_stock (x : UPort) : (s.upstreamLinkUp x).stock = s.stock := by
  unfold State.upstreamLinkUp
  split <;> simp

@[simp] theorem State.unplugged_stock (x : UPort) : (s.unplugged x).stock = s.stock := by
  unfold State.unplugged
  split <;> simp

/-! ### What management leaves (R141, R180, R186) -/

@[simp] theorem State.runControl_stock (i : Fin 16) (v : Word) : (s.runControl i v).stock = s.stock := by
  unfold State.runControl
  split
  · rfl
  · split <;> rfl

@[simp] theorem State.clearCounters_stock : s.clearCounters.stock = s.stock := rfl

@[simp] theorem State.unfence_stock (n : DPort) : (s.unfence n).stock = s.stock := by
  unfold State.unfence
  split
  · exact s.onDown_stock n fun _ => ⟨rfl, rfl⟩
  · rfl

end

theorem State.storeUp_stock {s t : State} {x : UPort} {reg : UpReg} {v : Word} (h : s.storeUp x reg v = some t) :
    t.stock = s.stock := by
  unfold State.storeUp at h
  split at h
  · obtain ⟨_, -, rfl⟩ := Option.map_eq_some_iff.mp h
    rfl
  · obtain ⟨_, -, rfl⟩ := Option.map_eq_some_iff.mp h
    rfl
  · cases h

theorem State.storeDown_stock {s t : State} {n : DPort} {reg : DownReg} {v : Word} (h : s.storeDown n reg v = some t) :
    t.stock = s.stock := by
  cases reg <;> simp only [State.storeDown, Option.map_eq_some_iff, reduceCtorEq] at h
  all_goals
    obtain ⟨_, -, rfl⟩ := h
    exact s.onDown_stock n fun _ => ⟨rfl, rfl⟩

/-- No setting touches the items or the entries (R180). -/
theorem State.store_stock {s t : State} {reg : Reg} {v : Word} (h : s.store reg v = some t) : t.stock = s.stock := by
  cases reg with
  | up x reg => exact State.storeUp_stock h
  | down n reg => exact State.storeDown_stock h
  | mgmtPermit | mgmtBaseLo | noticeAddrLo =>
    simp only [State.store, Option.ite_none_left_eq_some, Option.ite_none_right_eq_some, Option.some.injEq] at h
    obtain ⟨-, rfl⟩ := h
    rfl
  | mgmtBaseHi | noticeAddrHi | enable | clear | noticeAck | matchUnit _ _ | release =>
    cases h
    rfl
  | noticePort | noticeRepeat | combine | trigger | capMgmt | capDefault | postCount | threshold | mode | staging _ _ =>
    simp only [State.store, Option.map_eq_some_iff] at h
    obtain ⟨_, -, rfl⟩ := h
    rfl
  | _ => simp [State.store] at h

/-! ### Entries that leave their queue -/

/-- A live entry whose item has been issued, or an orphan, ends without a change of the items (R86, R87). -/
theorem State.release_stock {s : State} {k : Fin 128} (h : (s.entry k).queued = none) : (s.release k).stock = s.stock :=
  s.onEntry_stock h.symm

theorem State.orphan_stock {s : State} {k : Fin 128} (h : (s.entry k).queued = none) : (s.orphan k).stock = s.stock :=
  s.onEntry_stock h.symm

theorem State.retire_queued (s : State) (k j : Fin 128) (status : Status) :
    ((s.retire k status).entry j).queued = (s.entry j).queued :=
  State.stock_queued (s.retire_stock k status) j

theorem EgressItem.countP_removeItem (k j : Fin 128) (q : List EgressItem) :
    (removeItem k q).countP (EgressItem.standsFor j) = if j = k then 0 else q.countP (EgressItem.standsFor j) := by
  rw [removeItem, List.countP_filter]
  split
  · next hj =>
    rw [hj, List.countP_eq_zero]
    intro i _
    cases i <;> simp [EgressItem.standsFor]
  · next hj =>
    refine List.countP_congr fun i _ => ?_
    cases i with
    | posted _ _ _ => simp [EgressItem.standsFor]
    | entry t data =>
      simp only [EgressItem.standsFor, Bool.and_eq_true, beq_iff_eq, bne_iff_ne, ne_eq, and_iff_left_iff_imp]
      rintro rfl
      exact hj

namespace State.ItemsMatch

variable {s t : State}

/-- The first item of a queue stands for an entry that waits there, and for no entry twice (R76). -/
theorem queued_of_head (h : s.ItemsMatch) {n : DPort} {k : Fin 128} {item : EgressItem} {rest : List EgressItem}
    (hqueue : (s.down.get n).egress = item :: rest) (hitem : item.standsFor k = true) :
    (s.entry k).queued = some n ∧ rest.countP (EgressItem.standsFor k) = 0 := by
  have hcount := (State.itemsMatch_iff.mp h).1 n k
  rw [State.itemsFor, hqueue, List.countP_cons_of_pos hitem] at hcount
  split at hcount
  · next hqueued => exact ⟨hqueued, Nat.succ.inj hcount⟩
  · cases hcount

/-- Entries leave the queue of Dn with their items, and nothing else changes there. -/
theorem of_left (h : s.ItemsMatch) {n : DPort} {leaves : Fin 128 → Prop} [DecidablePred leaves]
    (hentry : ∀ j, (t.entry j).queued = if leaves j then none else (s.entry j).queued)
    (hitems : ∀ j, t.itemsFor n j = if leaves j then 0 else s.itemsFor n j)
    (hn : ∀ j m, leaves j → (s.entry j).queued = some m → m = n)
    (hlink : (t.down.get n).link = (s.down.get n).link)
    (hnil : (s.down.get n).egress = [] → (t.down.get n).egress = [])
    (hother : ∀ m, m ≠ n → t.down.get m = s.down.get m) : t.ItemsMatch := by
  obtain ⟨hcount, hdown⟩ := State.itemsMatch_iff.mp h
  have hleft (m : DPort) (j : Fin 128) : t.itemsFor m j = if leaves j then 0 else s.itemsFor m j := by
    by_cases hmn : m = n
    · rw [hmn, hitems]
    · rw [State.itemsFor, hother m hmn, ← State.itemsFor]
      split
      · next hj => exact (hcount m j).trans (if_neg fun hqueued => hmn (hn j m hj hqueued))
      · rfl
  refine State.itemsMatch_iff.mpr ⟨fun m j => ?_, fun m hm => ?_⟩
  · rw [hleft, hentry]
    split
    · rw [if_neg nofun]
    · exact hcount m j
  · by_cases hmn : m = n
    · subst hmn
      exact hnil (hdown m (hlink ▸ hm))
    · rw [hother m hmn] at hm ⊢
      exact hdown m hm

/-- An entry that ends in its queue takes its item with it (R90, R99, R114). -/
theorem of_dropItem (h : s.ItemsMatch) {k : Fin 128} (hdown : t.down = (s.dropItem k).down)
    (hentry : ∀ j, (t.entry j).queued = if j = k then none else (s.entry j).queued) : t.ItemsMatch := by
  have hget : t.down.get (s.entry k).egress =
      { s.down.get (s.entry k).egress with egress := removeItem k (s.down.get (s.entry k).egress).egress } := by
    rw [hdown, State.dropItem, State.onDown_down, PerDown.get_modify_self]
  refine h.of_left (n := (s.entry k).egress) hentry (fun j => ?_) (fun j m hj hm => ?_) ?_ (fun hnil => ?_) fun m hm => ?_
  · rw [State.itemsFor, hget]
    exact EgressItem.countP_removeItem k j _
  · rw [← hj]
    exact (OttEntry.queued_eq_some_iff.mp hm).2.symm
  · rw [hget]
  · rw [hget, hnil]
    rfl
  · rw [hdown, State.dropItem, State.onDown_down, PerDown.get_modify_ne _ _ hm]

/-- The head item of a queue leaves it, and the entry that it stands for, if it is no PW, is ISSUED (R77). -/
theorem issued (h : s.ItemsMatch) {n : DPort} {item : EgressItem} {rest : List EgressItem}
    (hqueue : (s.down.get n).egress = item :: rest) {f : Downstream → Downstream}
    (hf : ∀ d, (f d).link = d.link ∧ (f d).egress = rest) : ((s.onDown n f).issueEntry item).ItemsMatch := by
  have hdown : ((s.onDown n f).issueEntry item).down = s.down.modify n f := by cases item <;> rfl
  have hentry (j : Fin 128) : (((s.onDown n f).issueEntry item).entry j).queued =
      if item.standsFor j = true then none else (s.entry j).queued := by
    cases item with
    | posted xaddr len data => rfl
    | entry k data =>
      rw [State.issueEntry, State.entry_onEntry]
      simp only [EgressItem.standsFor, beq_iff_eq, eq_comm (a := k)]
      split <;> rfl
  refine h.of_left (n := n) hentry (fun j => ?_) (fun j m hj hm => ?_) ?_ (fun hnil => ?_) fun m hm => ?_
  · rw [State.itemsFor, State.itemsFor, hdown, PerDown.get_modify_self, (hf _).2, hqueue]
    split
    · next hj => exact (h.queued_of_head hqueue hj).2
    · next hj => rw [List.countP_cons_of_neg hj]
  · rw [(h.queued_of_head hqueue hj).1, Option.some.injEq] at hm
    exact hm.symm
  · rw [hdown, PerDown.get_modify_self, (hf _).1]
  · rw [hqueue] at hnil
    cases hnil
  · rw [hdown, PerDown.get_modify_ne _ _ hm]

/-! ### A port that goes out of service (R62, R88, R89, R119) -/

/-- The queue is flushed and its entries end. -/
theorem bereaves (h : s.ItemsMatch) {n : DPort} {port : Downstream → Downstream} {end_ : OttEntry → OttEntry}
    (hst : s.Bereaves t n port end_) (hcuts : OttEntry.Cuts n end_) (hegress : (port (s.down.get n)).egress = []) :
    t.ItemsMatch := by
  obtain ⟨hcount, hdown⟩ := State.itemsMatch_iff.mp h
  have hget : t.down.get n = port (s.down.get n) := by rw [hst.down, PerDown.get_modify_self]
  have hother {m : DPort} (hm : m ≠ n) : t.down.get m = s.down.get m := by rw [hst.down, PerDown.get_modify_ne _ _ hm]
  have hended (k : Fin 128) : (t.entry k).queued = if (s.entry k).egress = n then none else (s.entry k).queued := by
    rw [hst.entry]
    split
    · next hn =>
      refine OttEntry.queued_eq_none_iff.mpr fun hpending => ?_
      have hlive := hcuts.live _ hn
      rw [hpending] at hlive
      cases hlive
    · next hn => rw [hcuts.other _ hn]
  refine State.itemsMatch_iff.mpr ⟨fun m k => ?_, fun m hm => ?_⟩ <;> by_cases hmn : m = n
  · subst hmn
    rw [State.itemsFor, hget, hegress, hended, if_neg]
    · rfl
    · split
      · nofun
      · next hne => exact fun hqueued => hne (OttEntry.queued_eq_some_iff.mp hqueued).2
  · rw [State.itemsFor, hother hmn, ← State.itemsFor, hcount, hended]
    refine if_congr ?_ rfl rfl
    split
    · next hn =>
      refine iff_of_false (fun hqueued => hmn ?_) nofun
      rw [← (OttEntry.queued_eq_some_iff.mp hqueued).2, hn]
    · exact Iff.rfl
  · rw [hmn, hget, hegress]
  · rw [hother hmn] at hm ⊢
    exact hdown m hm

theorem fence (h : s.ItemsMatch) (n : DPort) (reason : FenceReason) : (s.fence n reason).ItemsMatch := by
  cases hfenced : (s.down.get n).fenced with
  | true => rwa [State.fence_of_fenced hfenced]
  | false => exact h.bereaves (State.fence_bereaves hfenced reason) (OttEntry.fencedOff_cuts n) rfl

theorem linkDown (h : s.ItemsMatch) (n : DPort) : (s.linkDown n).ItemsMatch :=
  h.bereaves (s.linkDown_bereaves n) (OttEntry.cutOff_cuts n) rfl

theorem orphanTest (h : s.ItemsMatch) (n : DPort) : (s.orphanTest n).ItemsMatch := by
  unfold State.orphanTest
  split
  · exact h.fence n _
  · exact h

theorem forceDown (h : s.ItemsMatch) (n : DPort) : (s.forceDown n).ItemsMatch := by
  unfold State.forceDown
  split
  · exact (h.linkDown n).of_stock (State.emit_stock _ _)
  · exact h

end State.ItemsMatch

/-! ### The items that an allocation event brings (R73, R112, R113) -/

theorem itemOf_standsFor (r : Request) (d : Decoded) (ticket : Ticket) (k : Fin 128) :
    (itemOf r d ticket).standsFor k = true ↔ ticket = .entry k := by
  cases ticket with
  | slot => exact iff_of_false Bool.false_ne_true nofun
  | entry j => rw [Ticket.entry.injEq]; exact beq_iff_eq

theorem State.join_itemsFor (s : State) (x : UPort) (ticket : Option Ticket) (n : DPort) (k : Fin 128) :
    (s.join x ticket).itemsFor n k =
      s.itemsFor n k + if ticket = some (.entry k) ∧ s.waitsFor x n = true then 1 else 0 := by
  cases ticket with
  | none => rw [State.join_none, if_neg (fun h => nomatch h.1)]; rfl
  | some ticket =>
    cases hhead : s.waitingHead x with
    | none =>
      have hwaits : ¬ s.waitsFor x n = true := by simp [State.waitsFor, hhead]
      rw [if_neg fun h => hwaits h.2]
      simp only [State.join, hhead, Nat.add_zero]
    | some p =>
      obtain ⟨r, d⟩ := p
      have hwaits : s.waitsFor x n = true ↔ n = d.egress := by
        rw [State.waitsFor, hhead, beq_iff_eq, eq_comm]
      rw [State.join_some hhead, State.itemsFor, State.onDown_down, PerDown.get_modify]
      simp only [hwaits, Option.some.injEq]
      split
      · next hn =>
        subst hn
        rw [List.countP_append, List.countP_singleton]
        simp only [itemOf_standsFor, and_true]
        rfl
      · next hn =>
        rw [if_neg fun h => hn h.2]
        rfl

/-- Both joins, in whatever order. -/
theorem State.joinBoth_itemsFor (s : State) (first x : UPort) (ticket ticket' : Option Ticket) (n : DPort) (k : Fin 128) :
    (s.joinBoth first x ticket ticket').itemsFor n k =
      s.itemsFor n k + (if ticket = some (.entry k) ∧ s.waitsFor x n = true then 1 else 0)
        + if ticket' = some (.entry k) ∧ s.waitsFor x.other n = true then 1 else 0 := by
  have hwaits (y z : UPort) (tk : Option Ticket) : (s.join y tk).waitsFor z n = s.waitsFor z n := by
    rw [State.waitsFor, State.waitsFor, State.waitingHead_congr (s.join_up y tk)]
  unfold State.joinBoth
  split
  · rw [State.join_itemsFor, State.join_itemsFor, hwaits]
  · rw [State.join_itemsFor, State.join_itemsFor, hwaits, Nat.add_right_comm]

/-- The table and the queues that an allocation event leaves: both services, then the items of both heads. -/
theorem State.allocate_joinBoth (s : State) :
    ∃ x t ticket ticket', s.ServesBoth t x ticket ticket' ∧ s.allocate.ott = t.ott
      ∧ s.allocate.down = (t.joinBoth s.joinsFirst x ticket ticket').down := by
  obtain ⟨x, hx⟩ : ∃ x : UPort, s.lastGrant = x.other := ⟨s.lastGrant.other, (UPort.other_other _).symm⟩
  obtain ⟨t, tk, tk', hserves, hadmits, hadmits', heq⟩ := State.allocate_serves hx
  have hresolves := State.resolveBoth_resolves (hserves.heads hadmits s.joinsFirst) (hserves.heads hadmits' s.joinsFirst)
  rw [← heq] at hresolves
  exact ⟨x, t, tk, tk', hserves, hresolves.ott.trans (by rw [State.joinBoth_only]), hresolves.down⟩

namespace State.ItemsMatch

variable {s t : State}

/-- A FREE entry that is granted to the head of Ux lacks just the item that the head brings (R75, R76). -/
theorem granted (h : s.ItemsMatch) {x : UPort} {k : Fin 128} {e : OttEntry} (hfree : (s.entry k).state = .free)
    (hgrants : s.Grants x k e) (n : DPort) :
    s.itemsFor n k + (if s.waitsFor x n = true then 1 else 0) = if e.queued = some n then 1 else 0 := by
  obtain ⟨r, d, kind, hhead, -, rfl⟩ := hgrants
  have hnone : (s.entry k).queued = none := OttEntry.queued_of_state hfree nofun
  rw [(State.itemsMatch_iff.mp h).1, hnone, if_neg nofun, Nat.zero_add]
  refine if_congr ?_ rfl rfl
  simp only [State.waitsFor, hhead, beq_iff_eq, OttEntry.queued_eq_some_iff, State.granted, true_and]

/-- Each entry that is granted gets its item with the same ticket (R60, R73 to R75). -/
theorem allocate (h : s.ItemsMatch) : s.allocate.ItemsMatch := by
  obtain ⟨hcount, hdown⟩ := State.itemsMatch_iff.mp h
  refine State.itemsMatch_iff.mpr ⟨fun n k => ?_, fun n hn => ?_⟩
  · obtain ⟨x, t, tk, tk', hserves, hott, hjoined⟩ := s.allocate_joinBoth
    have hwaits (y : UPort) : t.waitsFor y n = s.waitsFor y n := by
      rw [State.waitsFor, State.waitsFor, State.waitingHead_congr hserves.up]
    have hbefore : t.itemsFor n k = s.itemsFor n k := by rw [State.itemsFor, State.itemsFor, hserves.down]
    have hafter : s.allocate.itemsFor n k = (t.joinBoth s.joinsFirst x tk tk').itemsFor n k := by
      rw [State.itemsFor, State.itemsFor, hjoined]
    rw [hafter, State.joinBoth_itemsFor, hbefore, hwaits, hwaits, State.entry_congr hott]
    by_cases htk : tk = some (.entry k)
    · have htk' := hserves.distinct k htk
      obtain ⟨hfree, hgrants⟩ := hserves.grants k htk
      simp only [htk, htk', true_and, false_and, if_false, Nat.add_zero]
      exact h.granted hfree hgrants n
    · by_cases htk' : tk' = some (.entry k)
      · obtain ⟨hfree, hgrants⟩ := hserves.grants' k htk'
        simp only [htk, htk', true_and, false_and, if_false, Nat.add_zero]
        exact h.granted hfree hgrants n
      · simp only [htk, htk', false_and, if_false, Nat.add_zero]
        rw [hserves.entry k htk htk', hcount]
  · obtain ⟨tickets, halloc⟩ := s.allocate_allocates
    obtain ⟨items, admission, hjoins⟩ := halloc.joins n
    have hlink : (s.down.get n).link = .down := by rwa [hjoins] at hn
    have hout : s.available n = false := by
      rw [State.available, hlink]
      rfl
    rw [halloc.down n hout]
    exact hdown n hlink

end State.ItemsMatch

end Sys2Proof.Machine
end

section
/-! PROOFS. One item for each PENDING entry, and none for any other (R76), after every step. -/

namespace Sys2Proof.Machine

-- One after another: checked side by side, the theorems exceed the memory limit of check.sh.
set_option Elab.async false

namespace State.ItemsMatch

variable {s t : State}

/-! ### Events that end with an allocation event (R73) -/

theorem fenceEvent (h : s.ItemsMatch) (n : DPort) (reason : FenceReason) : (s.fenceEvent n reason).ItemsMatch := by
  unfold State.fenceEvent
  split
  · exact h
  · exact (h.fence n reason).allocate

theorem orphanTestEvent (h : s.ItemsMatch) (n : DPort) : (s.orphanTestEvent n).ItemsMatch := by
  unfold State.orphanTestEvent
  split
  · exact h.fenceEvent n _
  · exact h

/-- An entry that has left its queue ends as an orphan (R80, R99). -/
theorem retire_orphan (h : s.ItemsMatch) {k : Fin 128} (hk : (s.entry k).queued = none) (status : Status) (n : DPort) :
    (((s.retire k status).orphan k).orphanTestEvent n).ItemsMatch :=
  (h.of_stock ((State.orphan_stock ((s.retire_queued k k status).trans hk)).trans (s.retire_stock k status))).orphanTestEvent n

/-- An entry that has left its queue ends and is released (R80). -/
theorem retire_release (h : s.ItemsMatch) {k : Fin 128} (hk : (s.entry k).queued = none) (status : Status) :
    ((s.retire k status).release k).allocate.ItemsMatch :=
  (h.of_stock ((State.release_stock ((s.retire_queued k k status).trans hk)).trans (s.retire_stock k status))).allocate

/-- A PENDING entry that expires takes its item with it (R99, R101). -/
theorem expireEntry (h : s.ItemsMatch) (k : Fin 128) : (s.expireEntry k).ItemsMatch := by
  unfold State.expireEntry
  split
  · refine allocate (h.of_dropItem (k := k) (State.retire_down _ k .timeout) fun j => ?_)
    rw [State.retire_release_entry]
    split <;> rfl
  · next hstate => exact h.retire_orphan (OttEntry.queued_of_state hstate nofun) .timeout _
  · next hstate => exact h.retire_orphan (OttEntry.queued_of_state hstate nofun) .timeout _
  · exact h
  · exact h

theorem expire (h : s.ItemsMatch) (k : Fin 128) : (s.expire k).ItemsMatch := by
  unfold State.expire
  split
  · exact (h.of_stock ((State.raise_stock _ _).trans (s.countDown_stock _ _))).expireEntry k
  · exact h

/-! ### Arriving parts (R78 to R84, R103) -/

theorem endAnswer (h : s.ItemsMatch) (n : DPort) {k : Fin 128} (hk : (s.entry k).queued = none) (status : Status)
    (last : Bool) : (s.endAnswer n k status last).ItemsMatch := by
  unfold State.endAnswer
  cases last with
  | true => exact h.retire_release hk status
  | false => exact h.retire_orphan hk status n

theorem forwardPart (h : s.ItemsMatch) {k : Fin 128} (hk : (s.entry k).queued = none) (p : Part) :
    (s.forwardPart k p).ItemsMatch := by
  refine (h.of_stock ?_).expire k
  rw [State.onEntry_stock, State.placePart_stock]
  rw [State.placePart_entry, hk]
  rfl

theorem forwardLast (h : s.ItemsMatch) {k : Fin 128} (hk : (s.entry k).queued = none) (p : Part) :
    (s.forwardLast k p).ItemsMatch := by
  have hstock : (((s.placePart (s.entry k).src { p with tag := (s.entry k).srcTag }).onEntry k fun e =>
      { e with received := e.received + p.data.length }).complete k .ok).stock = s.stock := by
    rw [State.complete_stock, State.onEntry_stock _ rfl, State.placePart_stock]
  exact (h.of_stock ((State.release_stock ((State.stock_queued hstock k).trans hk)).trans hstock)).allocate

theorem livePart (h : s.ItemsMatch) (n : DPort) {k : Fin 128} (hk : (s.entry k).queued = none) (p : Part) :
    (s.livePart n k p).ItemsMatch := by
  unfold State.livePart
  split
  · exact h.endAnswer n hk _ _
  · split
    · split
      · exact h.forwardLast hk p
      · exact h.forwardPart hk p
    · exact (h.of_stock (s.countDown_stock n _)).endAnswer n hk _ _

theorem latePart (h : s.ItemsMatch) (n : DPort) {k : Fin 128} (hk : (s.entry k).queued = none) (last : Bool) :
    (s.latePart n k last).ItemsMatch := by
  have hcounted (f : DownCounters → DownCounters) : (s.countDown n f).ItemsMatch := h.of_stock (s.countDown_stock n f)
  unfold State.latePart
  dsimp only
  split
  · exact ((hcounted _).of_stock (State.release_stock hk)).allocate
  · exact hcounted _

/-- No part finds an entry that is still in its queue (R78). -/
theorem partArrives (h : s.ItemsMatch) (n : DPort) (p : Part) : (s.partArrives n p).ItemsMatch := by
  unfold State.partArrives
  split
  · exact h.of_stock ((State.raise_stock _ _).trans (s.countDown_stock n _))
  · next k hclass => exact h.latePart n (OttEntry.queued_of_state (State.state_of_classify.1 hclass) nofun) _
  · next k hclass =>
    refine h.livePart n ?_ p
    rcases State.state_of_classify.2 hclass with hstate | hstate <;> exact OttEntry.queued_of_state hstate nofun

/-! ### Other arrivals -/

theorem crArrivesDown (h : s.ItemsMatch) (n : DPort) (count : BitVec 7) : (s.crArrivesDown n count).ItemsMatch := by
  have htaken : (s.onDown n fun d => { d with credits := d.credits + count.toNat }).ItemsMatch :=
    h.of_stock (s.onDown_stock n fun _ => ⟨rfl, rfl⟩)
  have hignored (f : DownCounters → DownCounters) : (s.countDown n f).ItemsMatch := h.of_stock (s.countDown_stock n f)
  unfold State.crArrivesDown
  dsimp only
  split
  · split
    · exact htaken
    · exact hignored _
  · split
    · exact htaken
    · exact (hignored _).fenceEvent n _

theorem damageTest (h : s.ItemsMatch) (n : DPort) : (s.damageTest n).ItemsMatch := by
  unfold State.damageTest
  split
  · exact h.fenceEvent n _
  · exact h

theorem countDamaged (h : s.ItemsMatch) (p : Port) : (s.countDamaged p).ItemsMatch := by
  cases p with
  | up x => exact h.of_stock (s.countUp_stock x _)
  | down n =>
    refine damageTest (h.of_stock ((State.degradeTest_stock _ n).trans (s.onDown_stock n ?_))) n
    exact fun _ => ⟨rfl, rfl⟩

theorem receive (h : s.ItemsMatch) (p : Port) (m : Message) : (s.receive p m).ItemsMatch := by
  have hgood (n : DPort) : (s.countGood n).ItemsMatch := h.of_stock (s.countGood_stock n)
  unfold State.receive
  split
  · exact h.of_stock (s.requestArrives_stock _ _)
  · exact h.of_stock (s.crArrivesUp_stock _ _)
  · exact h.of_stock (s.protocolErrorUp_stock _)
  · exact (hgood _).partArrives _ _
  · exact (hgood _).crArrivesDown _ _
  · exact (hgood _).of_stock (State.protocolErrorDown_stock _ _)

theorem arrive (h : s.ItemsMatch) (p : Port) (m : Message) : (s.arrive p m).ItemsMatch := by
  unfold State.arrive
  split
  · exact h
  · split
    · exact h.receive p m
    · exact h.countDamaged p

theorem arriveDamaged (h : s.ItemsMatch) (p : Port) (delivered : Option (List Byte)) :
    (s.arriveDamaged p delivered).ItemsMatch := by
  unfold State.arriveDamaged
  split
  · exact h
  · split
    · exact h.arrive p _
    · exact h.countDamaged p

/-! ### Links and issue -/

/-- An entry of the port that departs leaves its queue with its item, or had left it before (R90). -/
theorem departEntry (h : s.ItemsMatch) (x : UPort) (k : Fin 128) : (s.departEntry x k).ItemsMatch := by
  unfold State.departEntry
  split
  · exact h
  · split
    · refine h.of_dropItem (k := k) rfl fun j => ?_
      rw [State.release_entry]
      split <;> rfl
    · next hstate => exact h.of_stock (State.orphan_stock (OttEntry.queued_of_state hstate nofun))
    · next hstate => exact h.of_stock (State.orphan_stock (OttEntry.queued_of_state hstate nofun))
    · exact h
    · exact h

theorem upstreamLinkDown (h : s.ItemsMatch) (x : UPort) : (s.upstreamLinkDown x).ItemsMatch := by
  cases hlink : (s.up.get x).link with
  | down => rwa [State.upstreamLinkDown, if_pos hlink]
  | up =>
    rw [State.upstreamLinkDown_eq hlink]
    have hdeparted : (s.departed x).ItemsMatch :=
      List.foldlRecOn _ _ (h.of_stock (s.unplugged_stock x)) fun _ hr k _ => hr.departEntry x k
    exact allocate (List.foldlRecOn _ _ hdeparted fun _ hr n _ => hr.orphanTest n)

theorem downstreamLinkUp (h : s.ItemsMatch) (n : DPort) : (s.downstreamLinkUp n).ItemsMatch := by
  unfold State.downstreamLinkUp
  split
  · exact h
  · obtain ⟨hcount, hdown⟩ := h
    refine of_stock (s := s.onDown n _) ⟨fun m k => ?_, fun m hm => ?_⟩ (State.raise_stock _ _)
    · rw [State.onDown_down, PerDown.get_modify]
      split <;> exact hcount m k
    · rw [State.onDown_down, PerDown.get_modify] at hm ⊢
      split at hm
      · cases hm
      · next hmn =>
        rw [if_neg hmn]
        exact hdown m hm

theorem downstreamLinkDown (h : s.ItemsMatch) (n : DPort) : (s.downstreamLinkDown n).ItemsMatch := by
  unfold State.downstreamLinkDown
  split
  · exact h
  · exact (h.linkDown n).allocate

theorem issueHead (h : s.ItemsMatch) (n : DPort) : (s.issueHead n).ItemsMatch := by
  unfold State.issueHead
  split
  · exact h
  · next item rest hqueue =>
    split
    · have hsent := h.of_stock (s.emit_stock (.message (.down n) (.request (s.requestOfItem item))))
      refine allocate (hsent.issued hqueue ?_)
      exact fun _ => ⟨rfl, rfl⟩
    · exact h

/-! ### Management -/

theorem runCommand (h : s.ItemsMatch) (c : Command) (port : BitVec 8) : (s.runCommand c port).ItemsMatch := by
  unfold State.runCommand
  split
  · exact h.fenceEvent _ _
  · exact h.of_stock (s.unfence_stock _)
  · unfold State.retrain
    split
    · exact (h.forceDown _).allocate
    · exact h
  · exact h
  · exact h
  · exact h
  · exact h.of_stock s.clearCounters_stock
  · exact h.of_stock (s.onCapture_stock _)
  · exact h.of_stock (s.onCapture_stock _)
  · exact h.of_stock (s.onCapture_stock _)
  · exact h

theorem writeCommand (h : s.ItemsMatch) (v : Word) : (s.writeCommand v).ItemsMatch := by
  have hrecorded : (s.recordCommand v).ItemsMatch := h.of_stock rfl
  unfold State.writeCommand
  split
  · exact hrecorded.runCommand _ _
  · exact hrecorded

theorem access (h : s.ItemsMatch) (reg : Reg) (v : Word) : (s.access reg v).ItemsMatch := by
  have hstored {r : Reg} {t : State} (hstore : s.store r v = some t) : t.ItemsMatch := h.of_stock (State.store_stock hstore)
  unfold State.access
  split
  · exact h.of_stock (s.runControl_stock _ v)
  · exact h.writeCommand v
  · next x =>
    cases hstore : s.store (.up x .reserve) v with
    | none => exact h
    | some t => exact (hstored hstore).allocate
  · next n =>
    cases hstore : s.store (.down n .orphanLimit) v with
    | none => exact h
    | some t => exact (hstored hstore).orphanTestEvent n
  · cases hstore : s.store reg v with
    | none => exact h
    | some t => exact hstored hstore

/-- Soft reset leaves every downstream port DOWN and every entry FREE (R70, R187, R188). -/
theorem softReset (h : s.ItemsMatch) (x : UPort) (r : Request) (v : Word) : (s.softReset x r v).ItemsMatch := by
  rw [State.softReset_eq]
  refine .of_empty (fun k => ?_) fun n => ?_
  · have hzero : ((s.softAnsweredAll x r v).softValues.countUp x fun c => c.countHead .mgmtDone r.kind).entry k =
        OttEntry.zero := Vector.getElem_replicate _
    rw [hzero]
    rfl
  · rw [State.softValues_countUp_down, State.softAnsweredAll_down]
    split
    · rfl
    · next hlink =>
      refine h.2 n ?_
      cases hstate : (s.down.get n).link
      · rfl
      · contradiction

/-! ### Dispatch -/

theorem performWrite (h : s.ItemsMatch) (x : UPort) (r : Request) (reg : Reg) (v : Word) :
    (s.performWrite x r reg v).ItemsMatch := by
  have haccessed (status : Status) : ((s.answer x r status).access reg v).ItemsMatch :=
    (h.of_stock (s.answer_stock x r status)).access reg v
  unfold State.performWrite
  split
  · exact h.softReset x r v
  · split
    · exact (haccessed _).of_stock (State.resolveHead_stock ..)
    · exact (haccessed _).of_stock (State.resolveHead_stock ..)

theorem resolveOutcome (h : s.ItemsMatch) (x : UPort) (r : Request) (o : HeadOutcome) :
    (s.resolveOutcome x r o).ItemsMatch := by
  cases o with
  | rejected => exact h.of_stock (s.resolveHead_stock ..)
  | illFormed | mgmtRefused _ _ => exact h.of_stock (s.refuseHead_stock ..)
  | mgmtRead reg => exact h.of_stock ((State.resolveHead_stock ..).trans (s.placePart_stock x _))
  | mgmtWrite reg v => exact h.performWrite x r reg v
  | windowDenied i _ | unavailable i _ => exact h.of_stock (State.refuseHead_stock (s.countHit i) ..)
  | forward d => exact allocate (h.of_stock rfl)
  | noHit a =>
    cases a with
    | unmappedError => exact h.of_stock (s.refuseHead_stock ..)
    | zeroFill => exact h.of_stock (s.zeroFill_stock x r)

theorem dispatch (h : s.ItemsMatch) (x : UPort) : (s.dispatch x).ItemsMatch := by
  unfold State.dispatch
  split
  · exact h.resolveOutcome x _ _
  · exact h

theorem forwardHead (h : s.ItemsMatch) (x : UPort) : (s.forwardHead x).ItemsMatch := by
  unfold State.forwardHead
  split
  · exact h.resolveOutcome x _ _
  · exact h
  · split
    · exact h.allocate
    · exact h

theorem dispatchWrite (h : s.ItemsMatch) (x : UPort) (row : Reg → Word → Bool) : (s.dispatchWrite x row).ItemsMatch := by
  unfold State.dispatchWrite
  split
  · split
    · exact h.resolveOutcome x _ _
    · exact h
  · exact h

/-! ### The commands -/

/-- At power-on every queue is empty and every entry FREE (R190). -/
theorem of_powerOn {msel : BitVec 4} (hdown : s.down = (State.powerOn msel).down) (hott : s.ott = (State.powerOn msel).ott) :
    s.ItemsMatch := by
  refine .of_empty (fun k => ?_) fun n => ?_
  · have hzero : s.entry k = OttEntry.zero := by
      rw [State.entry, hott, State.powerOn, Vector.getElem_replicate]
    rw [hzero]
    rfl
  · rw [hdown]
    cases n <;> rfl

theorem of_running {f : State → State} (hf : ∀ s, s.ItemsMatch → (f s).ItemsMatch) (h : s.ItemsMatch)
    (hexec : whileRunning s f = .next t) : t.ItemsMatch :=
  of_whileRunning hexec h (hf s h)

theorem of_write {x : UPort} {row : Reg → Word → Bool} (h : s.ItemsMatch)
    (hexec : whileRunning s (fun s => s.dispatchWrite x row) = .next t) : t.ItemsMatch :=
  of_running (fun _ h => h.dispatchWrite x row) h hexec

/-- A transmitter of an upstream port takes no item (R121). -/
theorem of_chosen {x : UPort} {c : Candidate} {f : State → State} (hf : ∀ s : State, (f s).stock = s.stock)
    (h : s.ItemsMatch) (hexec : whileRunning s (fun s => if s.arbiterChoice x = some c then f s else s) = .next t) :
    t.ItemsMatch := by
  refine of_running (fun s h => ?_) h hexec
  split
  · exact h.of_stock (hf s)
  · exact h

theorem exec {c : Instr} (hexec : Sys2Proof.Machine.exec c s = .next t) (h : s.ItemsMatch) : t.ItemsMatch := by
  cases c with
  | powerOnReset msel =>
    cases hexec
    exact of_powerOn (msel := msel) rfl rfl
  | resetNAsserted =>
    cases hexec
    exact of_powerOn (msel := s.strap) rfl rfl
  | upstreamLinkUp x => exact of_running (fun s h => h.of_stock (s.upstreamLinkUp_stock x)) h hexec
  | upstreamLinkDown x => exact of_running (fun _ h => h.upstreamLinkDown x) h hexec
  | downstreamLinkUp n => exact of_running (fun _ h => h.downstreamLinkUp n) h hexec
  | downstreamLinkDown n => exact of_running (fun _ h => h.downstreamLinkDown n) h hexec
  | requestArrival _ _ | upstreamCrArrival _ _ | partArrival _ _ | downstreamCrArrival _ _ =>
    exact of_running (fun _ h => h.arrive _ _) h hexec
  | damagedMessageArrival p delivered => exact of_running (fun _ h => h.arriveDamaged p delivered) h hexec
  | misdirectedMessageArrival m => cases m <;> exact of_running (fun _ h => h.arrive _ _) h hexec
  | dispatch x => exact of_running (fun _ h => h.dispatch x) h hexec
  | forwarding x => exact of_running (fun _ h => h.forwardHead x) h hexec
  | issue n => exact of_running (fun _ h => h.issueHead n) h hexec
  | crTransmit x => exact of_chosen (fun s => s.sendCr_stock x) h hexec
  | responsePartTransmit x => exact of_chosen (fun s => s.sendPart_stock x) h hexec
  | noticeTransmit x => exact of_chosen (fun s => s.sendNotice_stock x) h hexec
  | expiry k => exact of_running (fun _ h => h.expire k) h hexec
  | repeatExpiry => exact of_running (fun s h => h.of_stock s.repeatExpire_stock) h hexec
  | timeAdvance => exact of_running (fun s h => h.of_stock s.advance_stock) h hexec
  | softReset _ | fenceCommand _ _ | unfence _ _ | retrain _ _ | clearCounters _ | captureArm _ | captureStop _
  | captureClear _ | unknownCommand _ _ | commit _ _ | disable _ _ | mgmtBaseLoWrite _ _ | reserveWrite _ _ _
  | orphanLimitWrite _ _ _ | enableWrite _ _ | clearWrite _ _ | noticeAck _ _ | captureRelease _ | settingWrite _ _ _ =>
    exact of_write h hexec

end State.ItemsMatch

/-- Settles O52: each command keeps the egress items and the PENDING entries matched, from that alone. -/
theorem stepsKeepOneItemPerPendingEntry : Obligations.StepsKeepOneItemPerPendingEntry := by
  intro s t hstep h
  unfold step at hstep
  split at hstep
  · cases hstep
    exact h
  · exact State.ItemsMatch.exec hstep (h.of_stock rfl)

end Sys2Proof.Machine
end

section
/-! PROOFS. Eligibility (R72), arriving parts (R79 to R87, R108), and issue (R77, R115): the statements of chapter 4 and of the
downstream transmitters about one command each. -/

namespace Sys2Proof.Machine

-- One after another: checked side by side, the theorems exceed the memory limit of check.sh.
set_option Elab.async false

/-! ### Eligibility (R72) -/

theorem State.freeEntries_eq_length (s : State) :
    s.freeEntries = ((List.finRange 128).filter fun k => (s.entry k).state == .free).length := by
  rw [State.freeEntries, State.ott_toList, List.countP_map, List.countP_eq_length_filter]
  rfl

theorem State.used_eq_length (s : State) (p : UPort) :
    s.used p = ((List.finRange 128).filter fun k => (s.entry k).state != .free && (s.entry k).src == p).length := by
  rw [State.used, State.ott_toList, List.countP_map, List.countP_eq_length_filter]
  rfl

/-- Settles O29: what the other reserve still asks is a difference of numbers, moved to the other side. -/
theorem eligibilityKeepsTheReserve : Obligations.EligibilityKeepsTheReserve := by
  intro p s
  rw [State.eligible_iff, Nat.sub_le_iff_le_add, State.freeEntries_eq_length, State.used_eq_length]

/-! ### The port that a part arrives on -/

theorem Message.usable_rsp_iff {p : Part} : (Message.rsp p).usable = true ↔ p.data.length ≤ 64 := decide_eq_true_iff

/-- A part of at most 64 bytes on a port that is UP is a good message, and is then taken by its class (R18, R78, R136). -/
theorem exec_partArrival {n : DPort} {p : Part} {s : State} (hheld : s.held = false) (hup : (s.down.get n).link = .up)
    (hlen : p.data.length ≤ 64) : exec (.partArrival n p) s = .next ((s.countGood n).partArrives n p) := by
  refine (whileRunning_of_released hheld fun s => s.arrive (.down n) (.rsp p)).trans (congrArg _ ?_)
  rw [State.arrive_of_up (p := .down n) hup, if_pos (Message.usable_rsp_iff.mpr hlen)]
  rfl

section
variable (s : State) (n : DPort)

theorem State.recoverTest_traffic : (s.recoverTest n).ott = s.ott ∧ (s.recoverTest n).up = s.up
    ∧ (s.recoverTest n).capture = s.capture := by
  unfold State.recoverTest
  dsimp only
  split <;> exact ⟨rfl, rfl, rfl⟩

/-- The run of good messages touches its port and the notice unit alone (R136, R137). -/
theorem State.countGood_traffic : (s.countGood n).ott = s.ott ∧ (s.countGood n).up = s.up
    ∧ (s.countGood n).capture = s.capture := State.recoverTest_traffic _ n

@[simp] theorem State.countGood_entry (k : Fin 128) : (s.countGood n).entry k = s.entry k :=
  State.entry_congr (s.countGood_traffic n).1 k

theorem State.classify_countGood (m : DPort) (tag : Tag) : (s.countGood n).classify m tag = s.classify m tag := by
  simp only [State.classify, State.countGood_entry]

end

/-- Settles O9. -/
theorem strayPartIsDiscarded : Obligations.StrayPartIsDiscarded := by
  intro n p s hheld hup hlen hstray
  obtain ⟨hott, hports, hcapture⟩ := s.countGood_traffic n
  have hclass : (s.countGood n).classify n p.tag = .stray :=
    (s.classify_countGood n n p.tag).trans (State.classify_eq_stray_iff.mpr hstray)
  refine ⟨?_, hott, hports, hcapture⟩
  rw [exec_partArrival hheld hup hlen, State.partArrives, hclass, State.strayPart]

/-! ### The end of an answer (R80, R84, R86, R87, R106) -/

theorem State.orphanTestEvent_eq (s : State) (n : DPort) :
    s.orphanTestEvent n =
      if (s.down.get n).fenced = false ∧ (s.down.get n).orphanLimit ≤ s.orphanCount n then (s.fence n .orphans).allocate
      else s := by
  unfold State.orphanTestEvent State.fenceEvent
  cases (s.down.get n).fenced <;> simp

theorem State.finished_more (s : State) (n : DPort) (k : Fin 128) :
    s.finished n k false = (s.orphan k).orphanTestEvent n := (State.orphanTestEvent_eq _ n).symm

/-- The requester's answer ends with a final part; the target is finished if its own part was the last. -/
theorem State.endAnswer_eq (s : State) (n : DPort) (k : Fin 128) (status : Status) (last : Bool) :
    s.endAnswer n k status last =
      ((s.placePart (s.entry k).src (Part.final (s.entry k).srcTag status)).complete k status).finished n k last := by
  cases last with
  | true => rfl
  | false => exact (State.finished_more _ n k).symm

/-! ### Parts of a live entry (R80 to R83, R108) -/

/-- The three shapes of a conforming part (R81). -/
theorem OttEntry.conforms_iff {e : OttEntry} {p : Part} (hlen : p.data.length ≤ 64) :
    e.conforms p = true ↔
      e.kind = .rd ∧ p.last = false ∧ p.data.length = 64 ∧ e.received + 64 < e.len
        ∨ e.kind = .rd ∧ p.last = true ∧ 1 ≤ p.data.length ∧ e.received + p.data.length = e.len
        ∨ e.kind = .wr ∧ p.last = true ∧ p.data = [] := by
  unfold OttEntry.conforms
  cases e.kind <;> cases p.last <;> simp [hlen]

/-- A part whose tag names a live entry of its port (R78). -/
theorem exec_livePart {n : DPort} {p : Part} {k : Fin 128} {s : State} (hheld : s.held = false)
    (hup : (s.down.get n).link = .up) (hlen : p.data.length ≤ 64) (htag : p.tag.toNat = k.val)
    (hstate : (s.entry k).state = .issued ∨ (s.entry k).state = .streaming) (hn : (s.entry k).egress = n) :
    exec (.partArrival n p) s = .next ((s.countGood n).livePart n k p) := by
  have hclass : (s.countGood n).classify n p.tag = .live k :=
    (s.classify_countGood n n p.tag).trans ((State.classify_of_entry htag.symm hn).2 hstate)
  rw [exec_partArrival hheld hup hlen, State.partArrives, hclass]

section
variable {s : State} {n : DPort} {k : Fin 128} {p : Part}

theorem State.livePart_of_error (h : p.status ≠ .ok) : s.livePart n k p = s.endAnswer n k p.status p.last := if_pos h

theorem State.livePart_of_nonconforming (hok : p.status = .ok) (h : (s.entry k).conforms p = false) :
    s.livePart n k p =
      (s.countDown n fun c => { c with nonconforming := satInc c.nonconforming }).endAnswer n k .targetError p.last := by
  rw [State.livePart, if_neg (not_not.mpr hok), h, if_neg Bool.false_ne_true]

theorem State.livePart_of_conforming (hok : p.status = .ok) (h : (s.entry k).conforms p = true) :
    s.livePart n k p = if p.last then s.forwardLast k p else s.forwardPart k p := by
  rw [State.livePart, if_neg (not_not.mpr hok), if_pos h]

end

/-- Settles O11: a part of another status, or one of no shape of R81, ends the answer with a final part of its own. -/
theorem earlyEndingPartRetiresTheRequest : Obligations.EarlyEndingPartRetiresTheRequest := by
  intro n p k s hheld hup hlen htag hstate hn
  rw [exec_livePart hheld hup hlen htag hstate hn]
  refine ⟨fun herror => ?_, fun hok hshape => ?_⟩
  · rw [State.livePart_of_error herror, State.endAnswer_eq, State.countGood_entry]
    rfl
  · have hconforms : ((s.countGood n).entry k).conforms p = false := by
      rw [State.countGood_entry, ← Bool.not_eq_true, OttEntry.conforms_iff hlen]
      rcases hshape with ⟨hkind, hlast, hno⟩ | ⟨hkind, hlast, hno⟩ | ⟨hkind, hno⟩
      · simpa [hkind, hlast] using hno
      · simpa [hkind, hlast] using hno
      · simpa [hkind] using hno
    rw [State.livePart_of_nonconforming hok hconforms, State.endAnswer_eq]
    simp only [State.countDown, State.onDown_entry, State.countGood_entry]
    rfl

/-- The expiry of an entry that streams on, where TIME has reached its deadline (R98, R101, R102). -/
theorem State.expire_of_streaming {s : State} {k : Fin 128} (hstate : (s.entry k).state = .streaming) :
    s.expire k =
      if (s.entry k).deadline = some s.time then
        (((s.timedOut k).placePart (s.entry k).src (Part.final (s.entry k).srcTag .timeout)).complete k .timeout).finished
          (s.entry k).egress k false
      else s := by
  have hdue : s.due k = true ↔ (s.entry k).deadline = some s.time := by
    rw [State.due, hstate, EntryState.live, Bool.true_and, beq_iff_eq]
  have hexpired : (s.timedOut k).expireEntry k =
      ((((s.timedOut k).retire k .timeout)).orphan k).orphanTestEvent (s.entry k).egress := by
    have hentry : (s.timedOut k).entry k = s.entry k := rfl
    rw [State.expireEntry, hentry, hstate]
  unfold State.expire
  simp only [hdue]
  refine if_congr Iff.rfl ?_ rfl
  exact hexpired.trans (State.finished_more _ _ k).symm

section
variable (s : State) (n : DPort) (k : Fin 128) (p : Part)

theorem State.streamed_entry : (s.streamed n k p).entry k =
    { s.entry k with state := .streaming, received := (s.entry k).received + 64 } := by
  rw [State.streamed, State.entry_onEntry_self, State.placePart_entry, State.countGood_entry]

theorem State.streamed_time : (s.streamed n k p).time = s.time :=
  State.kept_time ((State.onEntry_kept _ k _).trans ((State.placePart_kept _ _ _).trans (s.countGood_kept n)))

/-- A part of 64 bytes is forwarded, and the expiry of its entry is looked at after it (R82, R108). -/
theorem State.forwardPart_eq_streamed (h : p.data.length = 64) :
    (s.countGood n).forwardPart k p = (s.streamed n k p).expire k := by
  rw [State.forwardPart, State.countGood_entry, h]
  rfl

end

/-- Settles O12: a part of the first shape streams, and meets the expiry that is due; one with LAST set completes. -/
theorem conformingPartIsForwarded : Obligations.ConformingPartIsForwarded := by
  intro n p k s hheld hup hlen htag hstate hn hok
  rw [exec_livePart hheld hup hlen htag hstate hn]
  have hconforming (h : (s.entry k).conforms p = true) : (s.countGood n).livePart n k p =
      if p.last then (s.countGood n).forwardLast k p else (s.countGood n).forwardPart k p :=
    State.livePart_of_conforming hok ((s.countGood_entry n k).symm ▸ h)
  refine ⟨fun hmore => ?_, fun hshape => ?_⟩
  · obtain ⟨-, hlast, hfull, -⟩ := id hmore
    rw [hconforming ((OttEntry.conforms_iff hlen).mpr (.inl hmore)), hlast, if_neg Bool.false_ne_true,
      State.forwardPart_eq_streamed s n k p hfull, State.expire_of_streaming (by rw [State.streamed_entry]),
      State.streamed_entry, State.streamed_time, hn]
    exact ⟨fun hahead => by rw [if_neg hahead], fun hdue => by rw [if_pos hdue]; rfl⟩
  · have hlast : p.last = true := by
      rcases hshape with ⟨-, hlast, -⟩ | ⟨-, hlast, -⟩ <;> exact hlast
    rw [hconforming ((OttEntry.conforms_iff hlen).mpr (.inr hshape)), if_pos hlast, State.forwardLast, State.countGood_entry]
    rfl

/-! ### Issue (R77, R112, R115, R116, R120) -/

theorem exec_issue {n : DPort} {s : State} (hheld : s.held = false) : exec (.issue n) s = .next (s.issueHead n) :=
  whileRunning_of_released hheld fun s => s.issueHead n

section
variable {s : State} {n : DPort}

/-- Nothing is issued without service, without a credit, or from an empty queue (R115). -/
theorem State.issueHead_of_idle (h : s.available n = false ∨ (s.down.get n).credits = 0 ∨ (s.down.get n).egress = []) :
    s.issueHead n = s := by
  unfold State.issueHead
  split
  · rfl
  · next hqueue =>
    refine if_neg fun ⟨hservice, hcredit⟩ => ?_
    rcases h with hout | hnone | hempty
    · rw [hservice] at hout
      cases hout
    · rw [hnone] at hcredit
      exact absurd hcredit (by decide)
    · rw [hempty] at hqueue
      cases hqueue

theorem State.issueHead_of_ready (hservice : s.available n = true) (hcredit : 1 ≤ (s.down.get n).credits) {item : EgressItem}
    {rest : List EgressItem} (hqueue : (s.down.get n).egress = item :: rest) :
    s.issueHead n =
      (((s.emit (.message (.down n) (.request (s.requestOfItem item)))).onDown n fun q =>
        { q with
          egress := rest
          credits := q.credits - 1
          counters := { q.counters with requestsSent := satInc q.counters.requestsSent } }).issueEntry item).allocate := by
  simp only [State.issueHead, hqueue, hservice, hcredit, and_self, if_true]

theorem State.requestOfItem_entry (s : State) (k : Fin 128) (data : List Byte) :
    s.requestOfItem (.entry k data) =
      { kind := if (s.entry k).kind = .rd then .rd else .wr
        tag := BitVec.ofNat 8 k.val
        addr := (s.entry k).xaddr
        len := BitVec.ofNat 9 (s.entry k).len
        data := data } := by
  rw [State.requestOfItem]
  cases (s.entry k).kind <;> rfl

end

/-- Settles O33: the head item goes out with the request that it stands for. -/
theorem issueTransmitsTheHeadItem : Obligations.IssueTransmitsTheHeadItem := by
  intro n s hheld
  rw [exec_issue hheld]
  refine ⟨fun hidle => congrArg _ (State.issueHead_of_idle hidle), fun hservice hcredit =>
    ⟨fun xaddr len data rest hqueue => congrArg _ (State.issueHead_of_ready hservice hcredit hqueue),
      fun k data rest hqueue => ?_⟩⟩
  rw [State.issueHead_of_ready hservice hcredit hqueue, State.requestOfItem_entry]
  rfl

end Sys2Proof.Machine
end

section
/-! PROOFS. Deadlines and TIME (R96 to R98, R171, R173, R175): while TIME stands still every operation of traffic keeps the
deadlines ahead of it, one lemma for each operation. -/

namespace Sys2Proof.Machine

-- One after another: checked side by side, the theorems exceed the memory limit of check.sh.
set_option Elab.async false

/-! ### What a deadline asks -/

/-- A deadline stands in a live entry alone, 1 to 65535 microseconds after the forwarding, and `now` has not passed it
(R96 to R98). -/
def OttEntry.Ahead (now : Word) (e : OttEntry) : Prop :=
  ∀ moment, e.deadline = some moment →
    e.state.live = true ∧ 1 ≤ (moment - e.dispatchTime).toNat ∧ (moment - e.dispatchTime).toNat ≤ 65535
      ∧ (now - e.dispatchTime).toNat ≤ (moment - e.dispatchTime).toNat

/-- NOTICE_REPEAT is in its range, and a repeat deadline stands in SENT alone and `now` has not passed it (R171, R173, R175). -/
def NoticeUnit.Ahead (now : Word) (u : NoticeUnit) : Prop :=
  u.repeatMs ≤ 65535
    ∧ ∀ moment, u.repeatDeadline = some moment → u.state = .sent ∧ (moment - now).toNat ≤ 65535000

theorem State.deadlinesAhead_iff {s : State} :
    s.DeadlinesAhead ↔
      (∀ n, (s.down.get n).rspTimeout ≤ 65535) ∧ s.notice.Ahead s.time ∧ ∀ k, (s.entry k).Ahead s.time :=
  ⟨fun ⟨htimeout, hms, hentry, hrepeat⟩ => ⟨htimeout, ⟨hms, hrepeat⟩, hentry⟩,
    fun ⟨htimeout, ⟨hms, hrepeat⟩, hentry⟩ => ⟨htimeout, hms, hentry, hrepeat⟩⟩

theorem OttEntry.Ahead.of_none {now : Word} {e : OttEntry} (h : e.deadline = none) : e.Ahead now := fun moment hm => by
  rw [h] at hm
  cases hm

/-- An entry that keeps its deadline, and stays live. -/
theorem OttEntry.Ahead.of_same {now : Word} {e f : OttEntry} (h : e.Ahead now) (hdeadline : f.deadline = e.deadline)
    (hdispatch : f.dispatchTime = e.dispatchTime) (hlive : e.state.live = true → f.state.live = true) : f.Ahead now :=
  fun moment hm => by
    obtain ⟨he, hahead⟩ := h moment (hdeadline ▸ hm)
    rw [hdispatch]
    exact ⟨hlive he, hahead⟩

theorem NoticeUnit.Ahead.of_none {now : Word} {u : NoticeUnit} (hms : u.repeatMs ≤ 65535) (h : u.repeatDeadline = none) :
    u.Ahead now :=
  ⟨hms, fun moment hm => by rw [h] at hm; cases hm⟩

/-- The examination moves IDLE alone, where no deadline stands (R169). -/
theorem NoticeUnit.Ahead.examine {now : Word} {u : NoticeUnit} (h : u.Ahead now) : u.examine.Ahead now := by
  unfold NoticeUnit.examine
  split
  · next hidle =>
    refine ⟨h.1, fun moment hm => ?_⟩
    have hsent := (h.2 moment hm).1
    rw [hidle.1] at hsent
    cases hsent
  · exact h

theorem toNat_add_ofNat_sub (now : Word) {k : Nat} (h : k < 2 ^ 32) : (now + BitVec.ofNat 32 k - now).toNat = k := by
  rw [BitVec.add_comm, BitVec.add_sub_cancel, BitVec.toNat_ofNat, Nat.mod_eq_of_lt h]

/-- The deadline of a grant is RSP_TIMEOUT after TIME (R96, R97). -/
theorem State.granted_ahead {s : State} {d : Decoded} (h : (s.down.get d.egress).rspTimeout ≤ 65535) (x : UPort) (r : Request)
    (kind : AnsweredKind) (k : Fin 128) : (s.granted x r d kind k).Ahead s.time := by
  intro moment hm
  simp only [State.granted, Option.ite_none_left_eq_some, Option.some.injEq] at hm ⊢
  obtain ⟨hne, rfl⟩ := hm
  rw [toNat_add_ofNat_sub s.time (h.trans_lt (by decide)), BitVec.sub_self]
  exact ⟨rfl, Nat.one_le_iff_ne_zero.mpr hne, h, Nat.zero_le _⟩

/-- The repeat deadline of a notice is NOTICE_REPEAT milliseconds after its transmission (R171, R175). -/
theorem NoticeUnit.Ahead.transmitted {now : Word} {u : NoticeUnit} (h : u.Ahead now) : (u.transmitted now).Ahead now := by
  have hms : u.repeatMs ≤ 65535 := h.1
  refine ⟨hms, fun moment hm => ⟨rfl, ?_⟩⟩
  simp only [NoticeUnit.transmitted, Option.ite_none_left_eq_some, Option.some.injEq] at hm
  obtain ⟨-, rfl⟩ := hm
  rw [toNat_add_ofNat_sub now (by omega)]
  omega

/-- An acknowledgement removes the deadline; a stale one changes nothing (R172). -/
theorem NoticeUnit.Ahead.acknowledge {now : Word} {u : NoticeUnit} (h : u.Ahead now) (v : Word) :
    (u.acknowledge v).Ahead now := by
  unfold NoticeUnit.acknowledge
  split
  · exact NoticeUnit.Ahead.examine (.of_none h.1 rfl)
  · exact h

/-! ### While TIME stands still -/

/-- TIME stands still, and the deadlines stay ahead of it. -/
structure State.Abides (s t : State) : Prop where
  time  : t.time = s.time
  ahead : s.DeadlinesAhead → t.DeadlinesAhead

namespace State.Abides

theorem refl (s : State) : s.Abides s := ⟨rfl, id⟩

variable {s t : State}

theorem trans {r : State} (h : s.Abides t) (h' : t.Abides r) : s.Abides r := ⟨h'.time.trans h.time, h'.ahead ∘ h.ahead⟩

/-- What touches no downstream port, no entry and not the notice unit. -/
theorem same {r : State} (h : s.Abides t) (htime : r.time = t.time) (hdown : r.down = t.down) (hott : r.ott = t.ott)
    (hnotice : r.notice = t.notice) : s.Abides r := by
  refine h.trans ⟨htime, fun ht => ?_⟩
  simpa only [State.DeadlinesAhead, htime, hdown, hnotice, State.entry_congr hott] using ht

theorem onUp (h : s.Abides t) (x : UPort) (f : Upstream → Upstream) : s.Abides (t.onUp x f) := h.same rfl rfl rfl rfl

theorem onCapture (h : s.Abides t) (f : Capture → Capture) : s.Abides (t.onCapture f) := h.same rfl rfl rfl rfl

theorem onWindow (h : s.Abides t) (i : Fin 16) (f : WindowEntry → WindowEntry) : s.Abides (t.onWindow i f) :=
  h.same rfl rfl rfl rfl

theorem emit (h : s.Abides t) (o : Output) : s.Abides (t.emit o) := h.same rfl rfl rfl rfl

theorem countUp (h : s.Abides t) (x : UPort) (f : UpCounters → UpCounters) : s.Abides (t.countUp x f) := h.onUp x _

theorem onDown (h : s.Abides t) (n : DPort) {f : Downstream → Downstream}
    (hf : (t.down.get n).rspTimeout ≤ 65535 → (f (t.down.get n)).rspTimeout ≤ 65535) : s.Abides (t.onDown n f) := by
  refine h.trans ⟨rfl, fun ⟨htimeout, hrest⟩ => ⟨fun m => ?_, hrest⟩⟩
  rw [State.onDown_down, PerDown.get_modify]
  split
  · next hm => exact hm ▸ hf (htimeout n)
  · exact htimeout m

theorem countDown (h : s.Abides t) (n : DPort) (f : DownCounters → DownCounters) : s.Abides (t.countDown n f) :=
  h.onDown n id

theorem onEntry (h : s.Abides t) (k : Fin 128) {f : OttEntry → OttEntry}
    (hf : t.DeadlinesAhead → (t.entry k).Ahead t.time → (f (t.entry k)).Ahead t.time) : s.Abides (t.onEntry k f) := by
  refine h.trans ⟨rfl, fun ht => ?_⟩
  obtain ⟨htimeout, hnotice, hentry⟩ := State.deadlinesAhead_iff.mp ht
  refine State.deadlinesAhead_iff.mpr ⟨htimeout, hnotice, fun j => ?_⟩
  rw [State.entry_onEntry]
  split
  · exact hf ht (hentry k)
  · exact hentry j

theorem onNotice (h : s.Abides t) {f : NoticeUnit → NoticeUnit}
    (hf : t.notice.Ahead t.time → (f t.notice).Ahead t.time) : s.Abides (t.onNotice f) := by
  refine h.trans ⟨rfl, fun ht => ?_⟩
  obtain ⟨htimeout, hnotice, hentry⟩ := State.deadlinesAhead_iff.mp ht
  exact State.deadlinesAhead_iff.mpr ⟨htimeout, hf hnotice, hentry⟩

theorem raise (h : s.Abides t) (c : Cause) : s.Abides (t.raise c) :=
  h.onNotice (f := fun u => NoticeUnit.examine { u with cause := u.cause ||| c.set }) fun hu =>
    NoticeUnit.Ahead.examine (u := { t.notice with cause := t.notice.cause ||| c.set }) hu

theorem raiseOpt (h : s.Abides t) (c : Option Cause) : s.Abides (t.raiseOpt c) := by
  cases c with
  | none => exact h
  | some c => exact h.raise c

theorem foldl {α : Type} (h : s.Abides t) {f : State → α → State} (hf : ∀ r a, s.Abides r → s.Abides (f r a))
    (l : List α) : s.Abides (l.foldl f t) := by
  induction l generalizing t with
  | nil => exact h
  | cons a l ih => exact ih (hf t a h)

/-! ### Parts, handings and heads -/

theorem protocolErrorUp (h : s.Abides t) (x : UPort) : s.Abides (t.protocolErrorUp x) := (h.countUp x _).raise _

theorem placePart (h : s.Abides t) (x : UPort) (p : Part) : s.Abides (t.placePart x p) := by
  unfold State.placePart
  split
  · exact h.protocolErrorUp x
  · exact h.onUp x _

theorem placeParts (h : s.Abides t) (x : UPort) (ps : List Part) : s.Abides (t.placeParts x ps) :=
  h.foldl (fun _ p hr => hr.placePart x p) ps

theorem answer (h : s.Abides t) (x : UPort) (r : Request) (status : Status) : s.Abides (t.answer x r status) := by
  unfold State.answer
  split
  · exact h
  · exact h.placePart x _
  · exact h.placePart x _

theorem offer (h : s.Abides t) (flag : Bool) (b : RecordBody) : s.Abides (t.offer flag b) := by
  unfold State.offer
  dsimp only
  split
  · split
    · exact (h.onCapture _).raise _
    · exact h.onCapture _
  · split
    · exact (h.onCapture _).raise _
    · exact (h.onCapture _).raise _

theorem freezeAtZero (h : s.Abides t) : s.Abides t.freezeAtZero := by
  unfold State.freezeAtZero
  split
  · exact (h.onCapture _).raise _
  · exact h

theorem hand (h : s.Abides t) (candidate fires : Bool) (b : RecordBody) : s.Abides (t.hand candidate fires b) := by
  have htriggered : s.Abides (t.triggerCapture candidate b) := by
    cases candidate with
    | true => exact (((h.onCapture _).raise _).offer true b).freezeAtZero
    | false => exact ((h.onCapture _).raise _).freezeAtZero
  have hrecorded : s.Abides (t.recordTriggered b) := by
    unfold State.recordTriggered
    split
    · exact ((h.offer false b).onCapture _).freezeAtZero
    · exact h.offer false b
  unfold State.hand
  split
  · exact h
  · exact h
  · split
    · exact htriggered
    · split
      · exact h.offer false b
      · exact h
  · split
    · exact hrecorded
    · exact h

theorem handRequest (h : s.Abides t) (g : Handing) : s.Abides (t.handRequest g) := h.hand _ _ _

theorem popHead (h : s.Abides t) (x : UPort) : s.Abides (t.popHead x) := h.onUp x _

theorem resolveHead (h : s.Abides t) (x : UPort) (r : Request) (code : WindowCode) (d : Disposition) (cause : Option Cause)
    (forward : Option ForwardInfo) : s.Abides (t.resolveHead x r code d cause forward) :=
  (((h.popHead x).countUp x _).raiseOpt cause).handRequest _

theorem refuseHead (h : s.Abides t) (x : UPort) (r : Request) (code : WindowCode) (d : Disposition) (status : Status) :
    s.Abides (t.refuseHead x r code d status) :=
  (h.answer x r status).resolveHead x r code d _ none

theorem failWaiting (h : s.Abides t) (x : UPort) (n : DPort) : s.Abides (t.failWaiting x n) := by
  unfold State.failWaiting
  split
  · split
    · exact h.refuseHead x _ _ _ _
    · exact h
  · exact h

theorem failWaitingHeads (h : s.Abides t) (n : DPort) : s.Abides (t.failWaitingHeads n) := by
  unfold State.failWaitingHeads
  split
  · exact ((h.same (r := { t with choices := t.choices + 1 }) rfl rfl rfl rfl).failWaiting _ n).failWaiting _ n
  · exact (h.failWaiting _ n).failWaiting _ n

/-! ### The life of an entry (R69, R77, R80 to R87) -/

theorem release (h : s.Abides t) (k : Fin 128) : s.Abides (t.release k) := h.onEntry k fun _ _ => .of_none rfl

theorem orphan (h : s.Abides t) (k : Fin 128) : s.Abides (t.orphan k) := h.onEntry k fun _ _ => .of_none rfl

theorem complete (h : s.Abides t) (k : Fin 128) (status : Status) : s.Abides (t.complete k status) := by
  unfold State.complete
  split
  · exact (h.hand _ _ _).onEntry k fun _ he => he.of_same rfl rfl id
  · exact h

theorem retire (h : s.Abides t) (k : Fin 128) (status : Status) : s.Abides (t.retire k status) :=
  (h.placePart _ _).complete k status

theorem dropItem (h : s.Abides t) (k : Fin 128) : s.Abides (t.dropItem k) := h.onDown _ id

theorem issueEntry (h : s.Abides t) (item : EgressItem) : s.Abides (t.issueEntry item) := by
  cases item with
  | entry k data => exact h.onEntry k (f := fun e => { e with state := .issued }) fun _ he => he.of_same rfl rfl fun _ => rfl
  | posted xaddr len data => exact h

/-! ### The allocation event (R60, R73 to R75, R97) -/

theorem serve (h : s.Abides t) (x : UPort) (admitted : Bool) : s.Abides (t.serve x admitted).1 := by
  unfold State.serve
  split
  · next r d _ =>
    split
    · exact h
    · next kind _ =>
      split
      · next k _ _ =>
        exact (h.same (r := { t with lastGrant := x }) rfl rfl rfl rfl).onEntry k (f := fun _ => t.granted x r d kind k)
          fun ht _ => State.granted_ahead (s := t) (ht.1 d.egress) x r kind k
      · exact h
  · exact h

theorem join (h : s.Abides t) (x : UPort) (ticket : Option Ticket) : s.Abides (t.join x ticket) := by
  unfold State.join
  split
  · exact h
  · split
    · exact h.onDown _ id
    · exact h

theorem resolveForwarded (h : s.Abides t) (x : UPort) (ticket : Option Ticket) : s.Abides (t.resolveForwarded x ticket) := by
  unfold State.resolveForwarded
  split
  · exact h
  · split
    · exact h.resolveHead x _ _ _ _ _
    · exact h

theorem resolveTickets (h : s.Abides t) (served : UPort) (t0 t1 : Option Ticket) :
    s.Abides (t.resolveTickets served t0 t1) := by
  unfold State.resolveTickets
  dsimp only
  split
  · exact (h.resolveForwarded _ _).resolveForwarded _ _
  · exact ((h.same (r := { t with choices := t.choices + 1 }) rfl rfl rfl rfl).resolveForwarded _ _).resolveForwarded _ _
  · exact (h.resolveForwarded _ _).resolveForwarded _ _

theorem allocate (h : s.Abides t) : s.Abides t.allocate := by
  unfold State.allocate
  dsimp only
  refine State.Abides.resolveTickets ?_ _ _ _
  split
  · exact (((h.serve _ _).serve _ _).join _ _).join _ _
  · exact (((h.serve _ _).serve _ _).join _ _).join _ _

/-! ### The fence and the links (R88 to R90, R119, R130) -/

theorem flush (h : s.Abides t) (n : DPort) : s.Abides (t.flush n) := h.onDown n id

theorem fenceEntry (h : s.Abides t) (n : DPort) (k : Fin 128) : s.Abides (t.fenceEntry n k) := by
  unfold State.fenceEntry
  split
  · exact h
  · split
    · exact (h.retire k _).release k
    · exact (h.retire k _).orphan k
    · exact (h.retire k _).orphan k
    · exact h
    · exact h

theorem unlinkEntry (h : s.Abides t) (n : DPort) (k : Fin 128) : s.Abides (t.unlinkEntry n k) := by
  unfold State.unlinkEntry
  split
  · exact h
  · split
    · exact (h.retire k _).release k
    · exact (h.retire k _).release k
    · exact (h.retire k _).release k
    · exact h.release k
    · exact h

theorem departEntry (h : s.Abides t) (x : UPort) (k : Fin 128) : s.Abides (t.departEntry x k) := by
  unfold State.departEntry
  split
  · exact h
  · split
    · exact (h.dropItem k).release k
    · exact h.orphan k
    · exact h.orphan k
    · exact h
    · exact h

theorem fence (h : s.Abides t) (n : DPort) (reason : FenceReason) : s.Abides (t.fence n reason) := by
  unfold State.fence
  split
  · exact h
  · exact ((((h.onDown n id).raise _).foldl (fun _ k hr => hr.fenceEntry n k) ottIndices).flush n).failWaitingHeads n

theorem orphanTest (h : s.Abides t) (n : DPort) : s.Abides (t.orphanTest n) := by
  unfold State.orphanTest
  split
  · exact h.fence n _
  · exact h

theorem fenceEvent (h : s.Abides t) (n : DPort) (reason : FenceReason) : s.Abides (t.fenceEvent n reason) := by
  unfold State.fenceEvent
  split
  · exact h
  · exact (h.fence n reason).allocate

theorem orphanTestEvent (h : s.Abides t) (n : DPort) : s.Abides (t.orphanTestEvent n) := by
  unfold State.orphanTestEvent
  split
  · exact h.fenceEvent n _
  · exact h

theorem linkDown (h : s.Abides t) (n : DPort) : s.Abides (t.linkDown n) := by
  unfold State.linkDown
  refine ((State.Abides.foldl ?_ (fun _ k hr => hr.unlinkEntry n k) ottIndices).flush n).failWaitingHeads n
  split
  · exact ((h.onDown n id).raise _).raise _
  · exact (h.onDown n id).raise _

theorem forceDown (h : s.Abides t) (n : DPort) : s.Abides (t.forceDown n) := by
  unfold State.forceDown
  split
  · exact (h.linkDown n).emit _
  · exact h

theorem downstreamLinkDown (h : s.Abides t) (n : DPort) : s.Abides (t.downstreamLinkDown n) := by
  unfold State.downstreamLinkDown
  split
  · exact h
  · exact (h.linkDown n).allocate

theorem downstreamLinkUp (h : s.Abides t) (n : DPort) : s.Abides (t.downstreamLinkUp n) := by
  unfold State.downstreamLinkUp
  split
  · exact h
  · exact (h.onDown n id).raise _

theorem upstreamLinkUp (h : s.Abides t) (x : UPort) : s.Abides (t.upstreamLinkUp x) := by
  unfold State.upstreamLinkUp
  split
  · exact h
  · exact (h.onUp x _).raise _

theorem upstreamLinkDown (h : s.Abides t) (x : UPort) : s.Abides (t.upstreamLinkDown x) := by
  unfold State.upstreamLinkDown
  split
  · exact h
  · refine ((State.Abides.foldl ?_ (fun _ k hr => hr.departEntry x k) ottIndices).foldl
      (fun _ n hr => hr.orphanTest n) DPort.all).allocate
    split
    · exact ((h.onUp x _).raise _).handRequest _
    · exact (h.onUp x _).raise _

/-! ### Expiry and arriving parts (R78 to R84, R98 to R103) -/

theorem expireEntry (h : s.Abides t) (k : Fin 128) : s.Abides (t.expireEntry k) := by
  unfold State.expireEntry
  split
  · exact (((h.dropItem k).retire k _).release k).allocate
  · exact ((h.retire k _).orphan k).orphanTestEvent _
  · exact ((h.retire k _).orphan k).orphanTestEvent _
  · exact h
  · exact h

theorem expire (h : s.Abides t) (k : Fin 128) : s.Abides (t.expire k) := by
  unfold State.expire
  split
  · exact ((h.countDown _ _).raise _).expireEntry k
  · exact h

theorem endAnswer (h : s.Abides t) (n : DPort) (k : Fin 128) (status : Status) (last : Bool) :
    s.Abides (t.endAnswer n k status last) := by
  cases last with
  | true => exact ((h.retire k status).release k).allocate
  | false => exact ((h.retire k status).orphan k).orphanTestEvent n

theorem forwardPart (h : s.Abides t) (k : Fin 128) (p : Part) : s.Abides (t.forwardPart k p) :=
  State.Abides.expire ((h.placePart _ _).onEntry k fun _ he => he.of_same rfl rfl fun _ => rfl) k

theorem forwardLast (h : s.Abides t) (k : Fin 128) (p : Part) : s.Abides (t.forwardLast k p) :=
  ((State.Abides.complete ((h.placePart _ _).onEntry k fun _ he => he.of_same rfl rfl id) k .ok).release k).allocate

theorem livePart (h : s.Abides t) (n : DPort) (k : Fin 128) (p : Part) : s.Abides (t.livePart n k p) := by
  unfold State.livePart
  split
  · exact h.endAnswer n k _ _
  · split
    · split
      · exact h.forwardLast k p
      · exact h.forwardPart k p
    · exact (h.countDown n _).endAnswer n k _ _

theorem latePart (h : s.Abides t) (n : DPort) (k : Fin 128) (last : Bool) : s.Abides (t.latePart n k last) := by
  unfold State.latePart
  dsimp only
  split
  · exact ((h.countDown n _).release k).allocate
  · exact h.countDown n _

theorem partArrives (h : s.Abides t) (n : DPort) (p : Part) : s.Abides (t.partArrives n p) := by
  unfold State.partArrives
  split
  · exact (h.countDown n _).raise _
  · exact h.latePart n _ _
  · exact h.livePart n _ p

/-! ### Other arrivals (R16, R20, R46, R117, R136 to R138) -/

theorem recoverTest (h : s.Abides t) (n : DPort) : s.Abides (t.recoverTest n) := by
  unfold State.recoverTest
  dsimp only
  split
  · exact (h.onDown n id).raise _
  · exact h

theorem degradeTest (h : s.Abides t) (n : DPort) : s.Abides (t.degradeTest n) := by
  unfold State.degradeTest
  dsimp only
  split
  · exact (h.onDown n id).raise _
  · exact h

theorem countDamaged (h : s.Abides t) (p : Port) : s.Abides (t.countDamaged p) := by
  unfold State.countDamaged
  split
  · exact h.countUp _ _
  · unfold State.damageTest
    split
    · exact ((h.onDown _ id).degradeTest _).fenceEvent _ _
    · exact (h.onDown _ id).degradeTest _

theorem crArrivesDown (h : s.Abides t) (n : DPort) (count : BitVec 7) : s.Abides (t.crArrivesDown n count) := by
  unfold State.crArrivesDown
  dsimp only
  split
  · split
    · exact h.onDown n id
    · exact h.countDown n _
  · split
    · exact h.onDown n id
    · exact (h.countDown n _).fenceEvent n _

theorem crArrivesUp (h : s.Abides t) (x : UPort) (count : BitVec 7) : s.Abides (t.crArrivesUp x count) := by
  unfold State.crArrivesUp
  split
  · exact h.onUp x _
  · exact h.protocolErrorUp x

theorem requestArrives (h : s.Abides t) (x : UPort) (r : Request) : s.Abides (t.requestArrives x r) := by
  unfold State.requestArrives
  split
  · exact h.onUp x _
  · exact h.protocolErrorUp x

theorem receive (h : s.Abides t) (p : Port) (m : Message) : s.Abides (t.receive p m) := by
  have hgood (n : DPort) : s.Abides (t.countGood n) := (h.onDown n id).recoverTest n
  unfold State.receive
  split
  · exact h.requestArrives _ _
  · exact h.crArrivesUp _ _
  · exact h.protocolErrorUp _
  · exact (hgood _).partArrives _ _
  · exact (hgood _).crArrivesDown _ _
  · exact ((hgood _).countDown _ _).raise _

theorem arrive (h : s.Abides t) (p : Port) (m : Message) : s.Abides (t.arrive p m) := by
  unfold State.arrive
  split
  · exact h
  · split
    · exact h.receive p m
    · exact h.countDamaged p

theorem arriveDamaged (h : s.Abides t) (p : Port) (delivered : Option (List Byte)) : s.Abides (t.arriveDamaged p delivered) := by
  unfold State.arriveDamaged
  split
  · exact h
  · split
    · exact h.arrive p _
    · exact h.countDamaged p

/-! ### The transmitters and the repeat (R115, R122 to R124, R170 to R173) -/

theorem issueHead (h : s.Abides t) (n : DPort) : s.Abides (t.issueHead n) := by
  unfold State.issueHead
  split
  · exact h
  · split
    · exact (((h.emit _).onDown n id).issueEntry _).allocate
    · exact h

theorem sendCr (h : s.Abides t) (x : UPort) : s.Abides (t.sendCr x) := (h.emit _).onUp x _

theorem sendPart (h : s.Abides t) (x : UPort) : s.Abides (t.sendPart x) := by
  unfold State.sendPart
  split
  · exact h
  · exact (h.emit _).onUp x _

theorem sendNotice (h : s.Abides t) (x : UPort) : s.Abides (t.sendNotice x) := by
  unfold State.sendNotice
  split
  · have hcancelled : s.Abides (t.onNotice NoticeUnit.cancel) := h.onNotice fun hu => .of_none hu.1 rfl
    exact hcancelled.sendPart x
  · have hsent : s.Abides ((t.emit (.message (.up x) (.request t.notice.message))).onUp x fun u =>
        { u with credits := u.credits - 1, turn := .notice }) := (h.emit _).onUp x _
    exact hsent.onNotice NoticeUnit.Ahead.transmitted

theorem repeatExpire (h : s.Abides t) : s.Abides t.repeatExpire := by
  unfold State.repeatExpire
  split
  · exact h.onNotice fun hu => .of_none hu.1 rfl
  · exact h

end State.Abides

end Sys2Proof.Machine
end

section
/-! PROOFS. Every step passes no deadline (R96 to R98, R171, R173, R175): management, TIME_ADVANCE, the resets, and
every command. -/

namespace Sys2Proof.Machine

-- One after another: checked side by side, the theorems exceed the memory limit of check.sh.
set_option Elab.async false

/-! ### Management (R71, R96, R105, R141, R175, R180, R186) -/

namespace State.Abides

variable {s t : State}

theorem storeUp (h : s.Abides t) {x : UPort} {reg : UpReg} {v : Word} {r : State} (hr : t.storeUp x reg v = some r) :
    s.Abides r := by
  unfold State.storeUp at hr
  split at hr
  · obtain ⟨_, -, rfl⟩ := Option.map_eq_some_iff.mp hr
    exact h.onUp x _
  · obtain ⟨_, -, rfl⟩ := Option.map_eq_some_iff.mp hr
    exact h.onUp x _
  · cases hr

theorem storeDown (h : s.Abides t) {n : DPort} {reg : DownReg} {v : Word} {r : State} (hr : t.storeDown n reg v = some r) :
    s.Abides r := by
  cases reg <;> simp only [State.storeDown, Option.map_eq_some_iff, reduceCtorEq] at hr
  case rspTimeout =>
    obtain ⟨k, hrange, rfl⟩ := hr
    obtain ⟨-, hhigh, rfl⟩ := inRange_eq_some_iff.mp hrange
    exact h.onDown n fun _ => hhigh
  all_goals
    obtain ⟨_, -, rfl⟩ := hr
    exact h.onDown n id

/-- A write of a setting or an action: both intervals stay in range, and the acknowledgement alone removes a deadline. -/
theorem store (h : s.Abides t) {reg : Reg} {v : Word} {r : State} (hr : t.store reg v = some r) : s.Abides r := by
  cases reg with
  | up x reg => exact h.storeUp hr
  | down n reg => exact h.storeDown hr
  | noticeRepeat =>
    obtain ⟨k, hrange, rfl⟩ := Option.map_eq_some_iff.mp hr
    obtain ⟨-, hhigh, rfl⟩ := inRange_eq_some_iff.mp hrange
    exact h.onNotice fun hu => ⟨hhigh, hu.2⟩
  | enable =>
    cases hr
    exact h.onNotice fun hu => NoticeUnit.Ahead.examine (u := { t.notice with enable := v.extractLsb' 0 25 }) hu
  | noticeAck =>
    cases hr
    exact h.onNotice fun hu => hu.acknowledge v
  | clear | noticeAddrHi =>
    cases hr
    exact h.onNotice id
  | noticePort =>
    obtain ⟨_, -, rfl⟩ := Option.map_eq_some_iff.mp hr
    exact h.onNotice id
  | noticeAddrLo =>
    simp only [State.store, Option.ite_none_left_eq_some, Option.some.injEq] at hr
    obtain ⟨-, rfl⟩ := hr
    exact h.onNotice id
  | mgmtPermit | mgmtBaseLo =>
    simp only [State.store, Option.ite_none_left_eq_some, Option.ite_none_right_eq_some, Option.some.injEq] at hr
    obtain ⟨-, rfl⟩ := hr
    exact h.same rfl rfl rfl rfl
  | mgmtBaseHi | matchUnit _ _ | release =>
    cases hr
    exact h.same rfl rfl rfl rfl
  | combine | trigger | capMgmt | capDefault | postCount | threshold | mode | staging _ _ =>
    obtain ⟨_, -, rfl⟩ := Option.map_eq_some_iff.mp hr
    exact h.same rfl rfl rfl rfl
  | _ => cases hr

theorem elim_store (h : s.Abides t) (reg : Reg) (v : Word) {f : State → State} (hf : ∀ r, s.Abides r → s.Abides (f r)) :
    s.Abides ((t.store reg v).elim t f) := by
  cases hr : t.store reg v with
  | none => exact h
  | some r => exact hf r (h.store hr)

theorem runControl (h : s.Abides t) (i : Fin 16) (v : Word) : s.Abides (t.runControl i v) := by
  unfold State.runControl
  split
  · exact h.onWindow i _
  · split
    · exact h.onWindow i _
    · exact h

theorem clearCounters (h : s.Abides t) : s.Abides t.clearCounters := by
  refine h.trans ⟨rfl, fun ⟨htimeout, hrest⟩ => ⟨fun n => ?_, hrest⟩⟩
  rw [State.clearCounters, PerDown.get_map]
  exact htimeout n

theorem unfence (h : s.Abides t) (n : DPort) : s.Abides (t.unfence n) := by
  unfold State.unfence
  split
  · exact h.onDown n id
  · exact h

theorem runCommand (h : s.Abides t) (c : Command) (port : BitVec 8) : s.Abides (t.runCommand c port) := by
  unfold State.runCommand
  split
  · exact h.fenceEvent _ _
  · exact h.unfence _
  · unfold State.retrain
    split
    · exact (h.forceDown _).allocate
    · exact h
  · exact h
  · exact h
  · exact h
  · exact h.clearCounters
  · exact h.onCapture _
  · exact h.onCapture _
  · exact h.onCapture _
  · exact h

theorem recordCommand (h : s.Abides t) (v : Word) : s.Abides (t.recordCommand v) := h.same rfl rfl rfl rfl

theorem writeCommand (h : s.Abides t) (v : Word) : s.Abides (t.writeCommand v) := by
  unfold State.writeCommand
  split
  · exact (h.recordCommand v).runCommand _ _
  · exact h.recordCommand v

theorem access (h : s.Abides t) (reg : Reg) (v : Word) : s.Abides (t.access reg v) := by
  unfold State.access
  split
  · exact h.runControl _ v
  · exact h.writeCommand v
  · exact h.elim_store _ v fun _ hr => hr.allocate
  · exact h.elim_store _ v fun _ hr => hr.orphanTestEvent _
  · rw [getD_eq_elim]
    exact h.elim_store _ v fun _ => id

/-! ### The first steps of soft reset (R187) -/

theorem softDownstream (h : s.Abides t) : s.Abides t.softDownstream := by
  have hforced : s.Abides (DPort.all.foldl State.forceDown t) := h.foldl (fun _ n hr => hr.forceDown n) DPort.all
  unfold State.softDownstream
  generalize DPort.all.foldl State.forceDown t = u at hforced ⊢
  refine hforced.trans ⟨rfl, fun ⟨htimeout, hrest⟩ => ⟨fun n => ?_, hrest⟩⟩
  rw [PerDown.get_map]
  exact htimeout n

theorem softQueue (h : s.Abides t) (x : UPort) : s.Abides (t.softQueue x) :=
  (h.foldl (fun _ r ht => (ht.answer x r .unavailable).onUp x _) _).onUp x _

theorem softAnsweredAll (h : s.Abides t) (x : UPort) (r : Request) (v : Word) : s.Abides (t.softAnsweredAll x r v) :=
  (((((h.recordCommand v).answer x r .ok).popHead x).softDownstream).softQueue .u0).softQueue .u1

end State.Abides

/-! ### What is due (R98, R173) -/

theorem State.due_iff {s : State} {k : Fin 128} :
    s.due k = true ↔ (s.entry k).state.live = true ∧ (s.entry k).deadline = some s.time := by
  rw [State.due, Bool.and_eq_true, beq_iff_eq]

theorem State.repeatDue_iff {s : State} :
    s.repeatDue = true ↔ s.notice.state = .sent ∧ s.notice.repeatDeadline = some s.time := by
  rw [State.repeatDue, Bool.and_eq_true, beq_iff_eq, beq_iff_eq]

theorem State.anyDue_iff {s : State} :
    s.anyDue = true ↔
      (∃ k, (s.entry k).state.live = true ∧ (s.entry k).deadline = some s.time)
        ∨ s.notice.state = .sent ∧ s.notice.repeatDeadline = some s.time := by
  simp only [State.anyDue, Bool.or_eq_true, List.any_eq_true, State.due_iff, State.repeatDue_iff, ottIndices,
    List.mem_finRange, true_and]

theorem State.advance_of_due {s : State} (h : s.anyDue = true) : s.advance = s := if_pos h

theorem State.advance_of_not_due {s : State} (h : s.anyDue ≠ true) : s.advance = { s with time := s.time + 1 } := if_neg h

/-- With nothing due, a deadline that is ahead of TIME has not come. -/
theorem State.DeadlinesAhead.not_now {s : State} (h : s.DeadlinesAhead) (hdue : s.anyDue ≠ true) :
    (∀ k, (s.entry k).deadline ≠ some s.time) ∧ s.notice.repeatDeadline ≠ some s.time := by
  obtain ⟨-, hnotice, hentry⟩ := State.deadlinesAhead_iff.mp h
  refine ⟨fun k hk => hdue ?_, fun hr => hdue ?_⟩
  · exact State.anyDue_iff.mpr (.inl ⟨k, (hentry k _ hk).1, hk⟩)
  · exact State.anyDue_iff.mpr (.inr ⟨(hnotice.2 _ hr).1, hr⟩)

/-- One microsecond does not pass a deadline that has not come (R98). -/
theorem OttEntry.Ahead.tick {now : Word} {e : OttEntry} (h : e.Ahead now) (hne : e.deadline ≠ some now) :
    e.Ahead (now + 1) := by
  intro moment hm
  obtain ⟨hlive, hlow, hhigh, hahead⟩ := h moment hm
  have hmoment : moment ≠ now := fun heq => hne (heq ▸ hm)
  refine ⟨hlive, hlow, hhigh, ?_⟩
  bv_omega

/-- One microsecond does not pass a repeat deadline that has not come (R173). -/
theorem NoticeUnit.Ahead.tick {now : Word} {u : NoticeUnit} (h : u.Ahead now) (hne : u.repeatDeadline ≠ some now) :
    u.Ahead (now + 1) := by
  refine ⟨h.1, fun moment hm => ?_⟩
  obtain ⟨hsent, hahead⟩ := h.2 moment hm
  have hmoment : moment ≠ now := fun heq => hne (heq ▸ hm)
  refine ⟨hsent, ?_⟩
  bv_omega

/-! ### Steps that pass no deadline -/

/-- The deadlines stay ahead of TIME, and where TIME changes, each deadline that had come is removed. -/
structure State.PassesNoDeadline (s t : State) : Prop where
  ahead   : s.DeadlinesAhead → t.DeadlinesAhead
  removed : s.DeadlinesAhead → t.time ≠ s.time →
    (∀ k, (s.entry k).deadline = some s.time → (t.entry k).deadline = none)
      ∧ (s.notice.repeatDeadline = some s.time → t.notice.repeatDeadline = none)

theorem State.Abides.passesNoDeadline {s t : State} (h : s.Abides t) : s.PassesNoDeadline t :=
  ⟨h.ahead, fun _ hne => absurd h.time hne⟩

/-- A state without deadlines has passed none. -/
theorem State.PassesNoDeadline.of_none {s t : State}
    (hranges : s.DeadlinesAhead → (∀ n, (t.down.get n).rspTimeout ≤ 65535) ∧ t.notice.repeatMs ≤ 65535)
    (hentry : ∀ k, (t.entry k).deadline = none) (hnotice : t.notice.repeatDeadline = none) : s.PassesNoDeadline t := by
  refine ⟨fun hs => State.deadlinesAhead_iff.mpr ?_, fun _ _ => ⟨fun k _ => hentry k, fun _ => hnotice⟩⟩
  obtain ⟨htimeout, hms⟩ := hranges hs
  exact ⟨htimeout, .of_none hms hnotice, fun k => .of_none (hentry k)⟩

/-- TIME_ADVANCE waits for what is due, and else passes nothing (R98, R173, R183; log 17). -/
theorem State.advance_passesNoDeadline (s : State) : s.PassesNoDeadline s.advance := by
  by_cases hdue : s.anyDue = true
  · rw [State.advance_of_due hdue]
    exact (State.Abides.refl s).passesNoDeadline
  · rw [State.advance_of_not_due hdue]
    refine ⟨fun hs => State.deadlinesAhead_iff.mpr ?_, fun hs _ => ?_⟩
    · obtain ⟨hentries, hrepeat⟩ := hs.not_now hdue
      obtain ⟨htimeout, hnotice, hentry⟩ := State.deadlinesAhead_iff.mp hs
      exact ⟨htimeout, hnotice.tick hrepeat, fun k => (hentry k).tick (hentries k)⟩
    · obtain ⟨hentries, hrepeat⟩ := hs.not_now hdue
      exact ⟨fun k hk => absurd hk (hentries k), fun hr => absurd hr hrepeat⟩

/-- Every entry is FREE and the notice unit idles once soft reset ends (R91, R177, R188). -/
theorem State.softReset_passesNoDeadline (s : State) (x : UPort) (r : Request) (v : Word) :
    s.PassesNoDeadline (s.softReset x r v) := by
  have hanswered := (State.Abides.refl s).softAnsweredAll x r v
  rw [State.softReset_eq]
  generalize s.softAnsweredAll x r v = u at hanswered ⊢
  refine .of_none (fun hs => ?_) (fun k => ?_) rfl
  · obtain ⟨htimeout, hms, -⟩ := hanswered.ahead hs
    refine ⟨fun n => ?_, hms⟩
    rw [State.softValues_countUp_down]
    exact htimeout n
  · rw [State.countUp, State.onUp_entry, State.softValues, State.entry, Vector.getElem_replicate]
    rfl

/-- The power-on values hold no deadline (R190). -/
theorem State.passesNoDeadline_of_powerOn {s t : State} (msel : BitVec 4) (hdown : t.down = (State.powerOn msel).down)
    (hott : t.ott = (State.powerOn msel).ott) (hnotice : t.notice = NoticeUnit.powerOn) : s.PassesNoDeadline t := by
  refine .of_none (fun _ => ⟨fun n => ?_, ?_⟩) (fun k => ?_) ?_
  · have hport : t.down.get n = Downstream.powerOn := by rw [hdown]; cases n <;> rfl
    rw [hport]
    decide
  · rw [hnotice]
    decide
  · rw [State.entry, hott, State.powerOn, Vector.getElem_replicate]
    rfl
  · rw [hnotice]
    rfl

/-! ### Dispatch -/

theorem State.performWrite_passesNoDeadline (s : State) (x : UPort) (r : Request) (reg : Reg) (v : Word) :
    s.PassesNoDeadline (s.performWrite x r reg v) := by
  have haccessed (status : Status) : s.Abides ((s.answer x r status).access reg v) :=
    ((State.Abides.refl s).answer x r status).access reg v
  unfold State.performWrite
  split
  · exact s.softReset_passesNoDeadline x r v
  · split
    · exact ((haccessed _).resolveHead x r _ _ _ _).passesNoDeadline
    · exact ((haccessed _).resolveHead x r _ _ _ _).passesNoDeadline

theorem State.resolveOutcome_passesNoDeadline (s : State) (x : UPort) (r : Request) (o : HeadOutcome) :
    s.PassesNoDeadline (s.resolveOutcome x r o) := by
  have h := State.Abides.refl s
  cases o with
  | rejected => exact (h.resolveHead x r _ _ _ _).passesNoDeadline
  | illFormed => exact (h.refuseHead x r _ _ _).passesNoDeadline
  | mgmtRefused d status => exact (h.refuseHead x r _ _ _).passesNoDeadline
  | mgmtRead reg => exact ((h.placePart x _).resolveHead x r _ _ _ _).passesNoDeadline
  | mgmtWrite reg v => exact s.performWrite_passesNoDeadline x r reg v
  | windowDenied i mode => exact ((h.onWindow i _).refuseHead x r _ _ _).passesNoDeadline
  | unavailable i mode => exact ((h.onWindow i _).refuseHead x r _ _ _).passesNoDeadline
  | forward d => exact ((h.onWindow _ _).onUp x _).allocate.passesNoDeadline
  | noHit a =>
    cases a with
    | unmappedError => exact (h.refuseHead x r _ _ _).passesNoDeadline
    | zeroFill =>
      refine (State.Abides.resolveHead ?_ x r _ _ _ _).passesNoDeadline
      split
      · exact h.placeParts x _
      · exact h.placePart x _
      · exact h

theorem State.dispatch_passesNoDeadline (s : State) (x : UPort) : s.PassesNoDeadline (s.dispatch x) := by
  unfold State.dispatch
  split
  · exact s.resolveOutcome_passesNoDeadline x _ _
  · exact (State.Abides.refl s).passesNoDeadline

theorem State.forwardHead_passesNoDeadline (s : State) (x : UPort) : s.PassesNoDeadline (s.forwardHead x) := by
  have h := State.Abides.refl s
  unfold State.forwardHead
  split
  · exact s.resolveOutcome_passesNoDeadline x _ _
  · exact h.passesNoDeadline
  · split
    · exact h.allocate.passesNoDeadline
    · exact h.passesNoDeadline

theorem State.dispatchWrite_passesNoDeadline (s : State) (x : UPort) (row : Reg → Word → Bool) :
    s.PassesNoDeadline (s.dispatchWrite x row) := by
  have h := (State.Abides.refl s).passesNoDeadline
  unfold State.dispatchWrite
  split
  · split
    · exact s.resolveOutcome_passesNoDeadline x _ _
    · exact h
  · exact h

/-! ### The commands -/

theorem State.PassesNoDeadline.of_running {s t : State} {f : State → State} (hf : ∀ s : State, s.PassesNoDeadline (f s))
    (hexec : whileRunning s f = .next t) : s.PassesNoDeadline t :=
  of_whileRunning hexec (State.Abides.refl s).passesNoDeadline (hf s)

theorem State.PassesNoDeadline.of_abiding {s t : State} {f : State → State} (hf : ∀ s : State, s.Abides (f s))
    (hexec : whileRunning s f = .next t) : s.PassesNoDeadline t :=
  .of_running (fun s => (hf s).passesNoDeadline) hexec

/-- A transmitter takes a message of the kind the arbiter chooses, or nothing. -/
theorem State.PassesNoDeadline.of_chosen {s t : State} {x : UPort} {c : Candidate} {f : State → State}
    (hf : ∀ s : State, s.Abides (f s))
    (hexec : whileRunning s (fun s => if s.arbiterChoice x = some c then f s else s) = .next t) : s.PassesNoDeadline t := by
  refine .of_abiding (fun s => ?_) hexec
  split
  · exact hf s
  · exact .refl s

theorem exec_passesNoDeadline {c : Instr} {s t : State} (hexec : exec c s = .next t) : s.PassesNoDeadline t := by
  cases c with
  | powerOnReset msel =>
    cases hexec
    exact State.passesNoDeadline_of_powerOn msel rfl rfl rfl
  | resetNAsserted =>
    cases hexec
    exact State.passesNoDeadline_of_powerOn s.strap rfl rfl rfl
  | upstreamLinkUp x => exact .of_abiding (fun s => (State.Abides.refl s).upstreamLinkUp x) hexec
  | upstreamLinkDown x => exact .of_abiding (fun s => (State.Abides.refl s).upstreamLinkDown x) hexec
  | downstreamLinkUp n => exact .of_abiding (fun s => (State.Abides.refl s).downstreamLinkUp n) hexec
  | downstreamLinkDown n => exact .of_abiding (fun s => (State.Abides.refl s).downstreamLinkDown n) hexec
  | requestArrival _ _ | upstreamCrArrival _ _ | partArrival _ _ | downstreamCrArrival _ _ =>
    exact .of_abiding (fun s => (State.Abides.refl s).arrive _ _) hexec
  | damagedMessageArrival p delivered => exact .of_abiding (fun s => (State.Abides.refl s).arriveDamaged p delivered) hexec
  | misdirectedMessageArrival m => cases m <;> exact .of_abiding (fun s => (State.Abides.refl s).arrive _ _) hexec
  | dispatch x => exact .of_running (fun s => s.dispatch_passesNoDeadline x) hexec
  | forwarding x => exact .of_running (fun s => s.forwardHead_passesNoDeadline x) hexec
  | issue n => exact .of_abiding (fun s => (State.Abides.refl s).issueHead n) hexec
  | crTransmit x => exact .of_chosen (fun s => (State.Abides.refl s).sendCr x) hexec
  | responsePartTransmit x => exact .of_chosen (fun s => (State.Abides.refl s).sendPart x) hexec
  | noticeTransmit x => exact .of_chosen (fun s => (State.Abides.refl s).sendNotice x) hexec
  | expiry k => exact .of_abiding (fun s => (State.Abides.refl s).expire k) hexec
  | repeatExpiry => exact .of_abiding (fun s => (State.Abides.refl s).repeatExpire) hexec
  | timeAdvance => exact .of_running State.advance_passesNoDeadline hexec
  | softReset _ | fenceCommand _ _ | unfence _ _ | retrain _ _ | clearCounters _ | captureArm _ | captureStop _
  | captureClear _ | unknownCommand _ _ | commit _ _ | disable _ _ | mgmtBaseLoWrite _ _ | reserveWrite _ _ _
  | orphanLimitWrite _ _ _ | enableWrite _ _ | clearWrite _ _ | noticeAck _ _ | captureRelease _ | settingWrite _ _ _ =>
    exact .of_running (fun s => s.dispatchWrite_passesNoDeadline _ _) hexec

theorem step_passesNoDeadline {s t : State} (hstep : step s = .next t) : s.PassesNoDeadline t := by
  unfold step at hstep
  split at hstep
  · cases hstep
    exact (State.Abides.refl s).passesNoDeadline
  · have h := exec_passesNoDeadline hstep
    exact ⟨h.ahead, h.removed⟩

/-- Settles O56: but for TIME_ADVANCE, which waits for what is due, and the resets, which leave no deadline, TIME stands still. -/
theorem stepsPassNoDeadline : Obligations.StepsPassNoDeadline :=
  ⟨fun _ _ hstep => (step_passesNoDeadline hstep).ahead, fun _ _ hstep => (step_passesNoDeadline hstep).removed⟩

end Sys2Proof.Machine
end

section
/-! PROOFS. Late parts (R87, R103), expiry (R98 to R102, R106), TIME_ADVANCE and the repeat of the notice (R173, R183): the
statements about one command each. -/

namespace Sys2Proof.Machine

-- One after another: checked side by side, the theorems exceed the memory limit of check.sh.
set_option Elab.async false

/-! ### Late parts (R87, R103) -/

/-- Settles O10: a part whose tag names an ORPHAN entry of its port is late. -/
theorem latePartReleasesTheOrphanAtLast : Obligations.LatePartReleasesTheOrphanAtLast := by
  intro n p k s hheld hup hlen htag hstate hn
  have hclass : (s.countGood n).classify n p.tag = .late k :=
    (s.classify_countGood n n p.tag).trans ((State.classify_of_entry htag.symm hn).1 hstate)
  rw [exec_partArrival hheld hup hlen, State.partArrives, hclass]
  rfl

/-! ### Expiry (R98 to R102, R106) -/

section
variable {s : State} {k : Fin 128}

theorem exec_expiry (hheld : s.held = false) : exec (.expiry k) s = .next (s.expire k) :=
  whileRunning_of_released hheld fun s => s.expire k

theorem State.expire_of_not_due (h : (s.entry k).deadline ≠ some s.time) : s.expire k = s :=
  if_neg fun hdue => h (State.due_iff.mp hdue).2

theorem State.expire_of_due (hlive : (s.entry k).state.live = true) (h : (s.entry k).deadline = some s.time) :
    s.expire k = (s.timedOut k).expireEntry k :=
  if_pos (State.due_iff.mpr ⟨hlive, h⟩)

theorem State.timedOut_entry (s : State) (k j : Fin 128) : (s.timedOut k).entry j = s.entry j := rfl

theorem State.expireEntry_of_pending (h : (s.entry k).state = .pending) :
    s.expireEntry k = (((s.dropItem k).retire k .timeout).release k).allocate := by
  rw [State.expireEntry, h]

theorem State.expireEntry_of_inFlight (h : (s.entry k).state = .issued ∨ (s.entry k).state = .streaming) :
    s.expireEntry k = (s.retire k .timeout).finished (s.entry k).egress k false := by
  rw [State.finished_more]
  rcases h with h | h <;> rw [State.expireEntry, h]

end

theorem removeItem_eq_filter (k : Fin 128) (q : List EgressItem) : removeItem k q = q.filter fun i => !i.standsFor k :=
  congrArg (List.filter · q) (funext fun i => by cases i <;> rfl)

/-- Settles O36: the three live states, and a deadline that has come or not. -/
theorem expiryAnswersTimeout : Obligations.ExpiryAnswersTimeout := by
  intro k s hheld
  rw [exec_expiry hheld]
  refine ⟨fun hno => congrArg _ (State.expire_of_not_due hno), fun hnow => ⟨fun hstate => ?_, fun hstate => ?_⟩⟩
  · rw [State.expire_of_due (by rw [hstate]; rfl) hnow, State.expireEntry_of_pending (by rwa [State.timedOut_entry])]
    simp only [← removeItem_eq_filter]
    rfl
  · have hlive : (s.entry k).state.live = true := EntryState.live_eq_true_iff.mpr (.inr hstate)
    rw [State.expire_of_due hlive hnow, State.expireEntry_of_inFlight (by rwa [State.timedOut_entry])]
    rfl

/-! ### TIME_ADVANCE and REPEAT_EXPIRY (R173, R183) -/

theorem State.repeatExpire_of_due {s : State} (h : s.repeatDue = true) : s.repeatExpire = s.onNotice NoticeUnit.requeue :=
  if_pos h

theorem State.repeatExpire_of_not_due {s : State} (h : s.repeatDue ≠ true) : s.repeatExpire = s := if_neg h

/-- Settles O37: TIME waits exactly while something is due, and the notice repeats exactly when its repeat is. -/
theorem timeAndRepeatExpiry : Obligations.TimeAndRepeatExpiry := by
  refine ⟨fun s hheld => ?_, fun s hheld => ?_⟩
  · have hexec : exec .timeAdvance s = .next s.advance := whileRunning_of_released hheld State.advance
    rw [hexec]
    refine ⟨fun hentries hrepeat => congrArg _ (State.advance_of_not_due fun hdue => ?_),
      fun hdue => congrArg _ (State.advance_of_due (State.anyDue_iff.mpr hdue))⟩
    rcases State.anyDue_iff.mp hdue with ⟨k, hlive, hnow⟩ | ⟨hsent, hnow⟩
    · exact hentries k hlive hnow
    · exact hrepeat hsent hnow
  · have hexec : exec .repeatExpiry s = .next s.repeatExpire := whileRunning_of_released hheld State.repeatExpire
    rw [hexec]
    refine ⟨fun hsent hnow => congrArg _ (State.repeatExpire_of_due (State.repeatDue_iff.mpr ⟨hsent, hnow⟩)),
      fun hno => congrArg _ (State.repeatExpire_of_not_due fun hdue => ?_)⟩
    obtain ⟨hsent, hnow⟩ := State.repeatDue_iff.mp hdue
    exact hno.elim (absurd hsent) (absurd hnow)

end Sys2Proof.Machine
end

section
/-! PROOFS. The credits that reach a downstream port (R117), and the notice at an upstream transmitter (R121, R124, R170, R171). -/

namespace Sys2Proof.Machine

-- One after another: checked side by side, the theorems exceed the memory limit of check.sh.
set_option Elab.async false

/-! ### DOWNSTREAM_CR_ARRIVAL (R16, R117) -/

/-- A usable CR on a port that is UP is a good message, and then follows the table of R117 (R18, R117, R136). -/
theorem exec_downstreamCrArrival {n : DPort} {count : BitVec 7} {s : State} (hheld : s.held = false)
    (hup : (s.down.get n).link = .up) (hlow : 1 ≤ count.toNat) (hhigh : count.toNat ≤ 64) :
    exec (.downstreamCrArrival n count) s = .next ((s.countGood n).crArrivesDown n count) := by
  refine (whileRunning_of_released hheld fun s => s.arrive (.down n) (.cr count)).trans (congrArg _ ?_)
  rw [State.arrive_of_up (p := .down n) hup, if_pos (Message.usable_cr_iff.mpr ⟨hlow, hhigh⟩)]
  rfl

section
variable {s : State} {n : DPort} {count : BitVec 7}

/-- The run of good messages leaves the fence and the credits of its port (R136, R137). -/
theorem State.countGood_service (s : State) (n : DPort) :
    ((s.countGood n).down.get n).fenced = (s.down.get n).fenced
      ∧ ((s.countGood n).down.get n).retrained = (s.down.get n).retrained
      ∧ ((s.countGood n).down.get n).credits = (s.down.get n).credits := by
  unfold State.countGood State.recoverTest
  dsimp only
  split <;> simp only [State.raise_down, State.onDown_down, PerDown.get_modify_self, and_self]

/-- Credits within the limit are taken by a port that is not fenced, or fenced and retrained (R117). -/
theorem State.crArrivesDown_of_taken (h : (s.down.get n).fenced = true → (s.down.get n).retrained = true)
    (hroom : (s.down.get n).credits + count.toNat ≤ 64) :
    s.crArrivesDown n count = s.onDown n fun d => { d with credits := d.credits + count.toNat } := by
  by_cases hfenced : (s.down.get n).fenced = true
  · exact (if_pos hfenced).trans (if_pos ⟨h hfenced, hroom⟩)
  · exact (if_neg hfenced).trans (if_pos hroom)

/-- A fenced port that is not retrained, or has no room for the credits, ignores them (R117). -/
theorem State.crArrivesDown_of_ignored (hfenced : (s.down.get n).fenced = true)
    (h : (s.down.get n).retrained = true → 64 < (s.down.get n).credits + count.toNat) :
    s.crArrivesDown n count = s.countDown n fun c => { c with crIgnored := satInc c.crIgnored } :=
  (if_pos hfenced).trans (if_neg fun ⟨hretrained, hroom⟩ => Nat.not_le.mpr (h hretrained) hroom)

/-- Credits past the limit fence a port that is not fenced (R117, R119). -/
theorem State.crArrivesDown_of_overflow (hfenced : (s.down.get n).fenced = false)
    (hover : 64 < (s.down.get n).credits + count.toNat) :
    s.crArrivesDown n count =
      ((s.countDown n fun c => { c with crIgnored := satInc c.crIgnored }).fence n .credit).allocate := by
  have hstill : ((s.countDown n fun c => { c with crIgnored := satInc c.crIgnored }).down.get n).fenced = false := by
    rw [State.countDown, State.onDown_down, PerDown.get_modify_self, hfenced]
  rw [State.crArrivesDown, hfenced, if_neg Bool.false_ne_true, if_neg (Nat.not_le.mpr hover), State.fenceEvent, hstill,
    if_neg Bool.false_ne_true]

end

/-- Settles O13: the table reads the fence and the credits, which the run of good messages leaves as they were. -/
theorem downstreamCrFollowsTheFence : Obligations.DownstreamCrFollowsTheFence := by
  intro n count s hheld hup hlow hhigh
  rw [exec_downstreamCrArrival hheld hup hlow hhigh]
  obtain ⟨hfence, hretrain, hcredits⟩ := s.countGood_service n
  rw [← hfence, ← hretrain, ← hcredits]
  refine ⟨fun hfenced hroom => ?_, fun hfenced hover => ?_, fun hfenced hstale => ?_, fun _ hretrained hroom => ?_,
    fun hfenced _ hover => ?_⟩
  · rw [State.crArrivesDown_of_taken (fun h => absurd (hfenced.symm.trans h) Bool.false_ne_true) hroom]
  · rw [State.crArrivesDown_of_overflow hfenced hover]
  · rw [State.crArrivesDown_of_ignored hfenced fun h => absurd (hstale.symm.trans h) Bool.false_ne_true]
  · rw [State.crArrivesDown_of_taken (fun _ => hretrained) hroom]
  · rw [State.crArrivesDown_of_ignored hfenced fun _ => hover]

/-! ### NOTICE_TRANSMIT (R121, R124, R170, R171) -/

section
variable {s : State} {x : UPort}

theorem exec_noticeTransmit (hheld : s.held = false) :
    exec (.noticeTransmit x) s = .next (if s.arbiterChoice x = some .notice then s.sendNotice x else s) :=
  whileRunning_of_released hheld fun s => if s.arbiterChoice x = some .notice then s.sendNotice x else s

/-- While no CR is eligible, an eligible notice goes out where no part waits or the turn is its own (R121). -/
theorem State.arbiterChoice_eq_notice (hup : (s.up.get x).link = .up) (hcr : s.crEligible x = false)
    (hnotice : s.noticeEligible x = true) (hturn : (s.up.get x).returnQueue = [] ∨ (s.up.get x).turn = .returned) :
    s.arbiterChoice x = some .notice := by
  rcases hturn with hempty | hturn
  · have hpart : s.partEligible x = false := by rw [State.partEligible, hempty]; rfl
    simp [State.arbiterChoice, hup, hcr, hnotice, hpart]
  · cases hpart : s.partEligible x <;> simp [State.arbiterChoice, hup, hcr, hnotice, hpart, hturn]

/-- A snapshot that is not empty goes out (R171). -/
theorem State.sendNotice_of_active (h : s.notice.active ≠ 0) :
    s.sendNotice x =
      ((s.emit (.message (.up x) (.request s.notice.message))).onUp x fun u =>
        { u with credits := u.credits - 1, turn := .notice }).onNotice fun u => u.transmitted s.time := if_neg h

/-- An empty snapshot is cancelled, and the transmitter takes a part (R170; log 12). -/
theorem State.sendNotice_of_empty (h : s.notice.active = 0) :
    s.sendNotice x = (s.onNotice NoticeUnit.cancel).sendPart x := if_pos h

end

/-- Settles O35: the arbiter's choice, then the snapshot, empty or not. -/
theorem noticeTransmitSendsOrCancels : Obligations.NoticeTransmitSendsOrCancels := by
  intro x s hheld hup hcr hqueued hport hcredit hturn
  have hchoice := State.arbiterChoice_eq_notice hup (State.crEligible_eq_false_iff.mpr hcr)
    (State.noticeEligible_iff.mpr ⟨hqueued, hport, hcredit⟩) hturn
  rw [exec_noticeTransmit hheld, if_pos hchoice]
  refine ⟨fun hactive => ?_, fun hempty => ?_⟩
  · rw [State.sendNotice_of_active hactive]
    rfl
  · rw [State.sendNotice_of_empty hempty, State.sendPart, State.onNotice_up]
    cases (s.up.get x).returnQueue <;> rfl

end Sys2Proof.Machine
end

section
/-! PROOFS. What arrivals, link events and expiries hand to the physical layers: nothing. They leave the outputs and the windows,
and lose no cause, one lemma for each operation. -/

namespace Sys2Proof.Machine

-- One after another: checked side by side, the theorems exceed the memory limit of check.sh.
set_option Elab.async false

namespace State.Carries

variable {s t : State}

/-! ### Shared operations -/

theorem countUp (h : s.Carries t) (x : UPort) (f : UpCounters → UpCounters) : s.Carries (t.countUp x f) := h.onUp x _

theorem countDown (h : s.Carries t) (n : DPort) (f : DownCounters → DownCounters) : s.Carries (t.countDown n f) :=
  h.onDown n _

theorem release (h : s.Carries t) (k : Fin 128) : s.Carries (t.release k) := h.onEntry k _

theorem orphan (h : s.Carries t) (k : Fin 128) : s.Carries (t.orphan k) := h.onEntry k _

theorem retire (h : s.Carries t) (k : Fin 128) (status : Status) : s.Carries (t.retire k status) :=
  h.trans (t.retire_carries k status)

theorem allocate (h : s.Carries t) : s.Carries t.allocate := h.trans t.allocate_carries

/-! ### The fence and the links (R66, R67, R106, R119, R129, R130) -/

theorem fence (h : s.Carries t) (n : DPort) (reason : FenceReason) : s.Carries (t.fence n reason) := by
  cases hfenced : (t.down.get n).fenced with
  | true => rwa [State.fence_of_fenced hfenced]
  | false => exact h.trans (State.fence_bereaves hfenced reason).carries

theorem fenceEvent (h : s.Carries t) (n : DPort) (reason : FenceReason) : s.Carries (t.fenceEvent n reason) := by
  unfold State.fenceEvent
  split
  · exact h
  · exact (h.fence n reason).allocate

theorem orphanTestEvent (h : s.Carries t) (n : DPort) : s.Carries (t.orphanTestEvent n) := by
  unfold State.orphanTestEvent
  split
  · exact h.fenceEvent n _
  · exact h

theorem upstreamLinkUp (h : s.Carries t) (x : UPort) : s.Carries (t.upstreamLinkUp x) := by
  unfold State.upstreamLinkUp
  split
  · exact h
  · exact (h.onUp x _).raise _

theorem upstreamLinkDown (h : s.Carries t) (x : UPort) : s.Carries (t.upstreamLinkDown x) := by
  cases hlink : (t.up.get x).link with
  | down => rwa [State.upstreamLinkDown, if_pos hlink]
  | up =>
    obtain ⟨-, -, hdeparted, -⟩ := t.departed_only x
    rw [State.upstreamLinkDown_eq hlink]
    exact ((h.trans hdeparted).foldl (fun r n hr => hr.trans (r.orphanTest_carries n)) DPort.all).allocate

theorem downstreamLinkUp (h : s.Carries t) (n : DPort) : s.Carries (t.downstreamLinkUp n) := by
  unfold State.downstreamLinkUp
  split
  · exact h
  · exact (h.onDown n _).raise _

theorem downstreamLinkDown (h : s.Carries t) (n : DPort) : s.Carries (t.downstreamLinkDown n) := by
  unfold State.downstreamLinkDown
  split
  · exact h
  · exact (h.trans (t.linkDown_bereaves n).carries).allocate

/-! ### Expiry and arriving parts (R78 to R84, R98 to R103) -/

theorem expire (h : s.Carries t) (k : Fin 128) : s.Carries (t.expire k) := by
  have hentry {r : State} (hr : s.Carries r) : s.Carries (r.expireEntry k) := by
    unfold State.expireEntry
    split
    · exact (((hr.onDown _ _).retire k _).release k).allocate
    · exact ((hr.retire k _).orphan k).orphanTestEvent _
    · exact ((hr.retire k _).orphan k).orphanTestEvent _
    · exact hr
    · exact hr
  unfold State.expire
  split
  · exact hentry ((h.countDown _ _).raise _)
  · exact h

theorem endAnswer (h : s.Carries t) (n : DPort) (k : Fin 128) (status : Status) (last : Bool) :
    s.Carries (t.endAnswer n k status last) := by
  cases last with
  | true => exact ((h.retire k status).release k).allocate
  | false => exact ((h.retire k status).orphan k).orphanTestEvent n

theorem forwardPart (h : s.Carries t) (k : Fin 128) (p : Part) : s.Carries (t.forwardPart k p) :=
  ((h.trans (t.placePart_carries _ _)).onEntry k _).expire k

theorem forwardLast (h : s.Carries t) (k : Fin 128) (p : Part) : s.Carries (t.forwardLast k p) :=
  ((((h.trans (t.placePart_carries _ _)).onEntry k _).trans (State.complete_carries _ k .ok)).release k).allocate

theorem livePart (h : s.Carries t) (n : DPort) (k : Fin 128) (p : Part) : s.Carries (t.livePart n k p) := by
  unfold State.livePart
  split
  · exact h.endAnswer n k _ _
  · split
    · split
      · exact h.forwardLast k p
      · exact h.forwardPart k p
    · exact (h.countDown n _).endAnswer n k _ _

theorem latePart (h : s.Carries t) (n : DPort) (k : Fin 128) (last : Bool) : s.Carries (t.latePart n k last) := by
  unfold State.latePart
  dsimp only
  split
  · exact ((h.countDown n _).release k).allocate
  · exact h.countDown n _

theorem partArrives (h : s.Carries t) (n : DPort) (p : Part) : s.Carries (t.partArrives n p) := by
  unfold State.partArrives
  split
  · exact (h.countDown n _).raise _
  · exact h.latePart n _ _
  · exact h.livePart n _ p

/-! ### Arrivals (R16, R20, R46, R117, R136 to R138) -/

theorem countGood (h : s.Carries t) (n : DPort) : s.Carries (t.countGood n) := by
  unfold State.countGood State.recoverTest
  dsimp only
  split
  · exact ((h.onDown n _).onDown n _).raise _
  · exact h.onDown n _

theorem countDamaged (h : s.Carries t) (p : Port) : s.Carries (t.countDamaged p) := by
  have hdegraded {r : State} (hr : s.Carries r) (n : DPort) : s.Carries (r.degradeTest n) := by
    unfold State.degradeTest
    dsimp only
    split
    · exact (hr.onDown n _).raise _
    · exact hr
  unfold State.countDamaged
  split
  · exact h.countUp _ _
  · unfold State.damageTest
    split
    · exact (hdegraded (h.onDown _ _) _).fenceEvent _ _
    · exact hdegraded (h.onDown _ _) _

theorem protocolErrorUp (h : s.Carries t) (x : UPort) : s.Carries (t.protocolErrorUp x) := (h.countUp x _).raise _

theorem requestArrives (h : s.Carries t) (x : UPort) (r : Request) : s.Carries (t.requestArrives x r) := by
  unfold State.requestArrives
  split
  · exact h.onUp x _
  · exact h.protocolErrorUp x

theorem crArrivesUp (h : s.Carries t) (x : UPort) (count : BitVec 7) : s.Carries (t.crArrivesUp x count) := by
  unfold State.crArrivesUp
  split
  · exact h.onUp x _
  · exact h.protocolErrorUp x

theorem crArrivesDown (h : s.Carries t) (n : DPort) (count : BitVec 7) : s.Carries (t.crArrivesDown n count) := by
  unfold State.crArrivesDown
  dsimp only
  split
  · split
    · exact h.onDown n _
    · exact h.countDown n _
  · split
    · exact h.onDown n _
    · exact (h.countDown n _).fenceEvent n _

theorem receive (h : s.Carries t) (p : Port) (m : Message) : s.Carries (t.receive p m) := by
  unfold State.receive
  split
  · exact h.requestArrives _ _
  · exact h.crArrivesUp _ _
  · exact h.protocolErrorUp _
  · exact (h.countGood _).partArrives _ _
  · exact (h.countGood _).crArrivesDown _ _
  · exact ((h.countGood _).countDown _ _).raise _

theorem arrive (h : s.Carries t) (p : Port) (m : Message) : s.Carries (t.arrive p m) := by
  unfold State.arrive
  split
  · exact h
  · split
    · exact h.receive p m
    · exact h.countDamaged p

theorem arriveDamaged (h : s.Carries t) (p : Port) (delivered : Option (List Byte)) :
    s.Carries (t.arriveDamaged p delivered) := by
  unfold State.arriveDamaged
  split
  · exact h
  · split
    · exact h.arrive p _
    · exact h.countDamaged p

end State.Carries

end Sys2Proof.Machine
end

section
/-! PROOFS. What goes out on a downstream port (R112, R115, R116): no command but ISSUE hands a message to a downstream
transmitter, and ISSUE hands one, in service and for a credit. -/

namespace Sys2Proof.Machine

-- One after another: checked side by side, the theorems exceed the memory limit of check.sh.
set_option Elab.async false

/-! ### Handings that spare the downstream transmitters -/

/-- What t has handed to the physical layers since s stands before what was handed earlier (log 13), and no message to a
downstream transmitter is among it. -/
def State.SparesDown (s t : State) : Prop :=
  ∃ added, t.outputs = added ++ s.outputs ∧ ∀ (n : DPort) (m : Message), Output.message (.down n) m ∉ added

namespace State.SparesDown

variable {s t : State}

theorem of_outputs (h : t.outputs = s.outputs) : s.SparesDown t := ⟨[], h, fun _ _ => List.not_mem_nil⟩

theorem refl (s : State) : s.SparesDown s := .of_outputs rfl

theorem trans {r : State} (h : s.SparesDown t) (h' : t.SparesDown r) : s.SparesDown r := by
  obtain ⟨added, houtputs, hno⟩ := h
  obtain ⟨added', houtputs', hno'⟩ := h'
  refine ⟨added' ++ added, by rw [houtputs', houtputs, List.append_assoc], fun n m hmem => ?_⟩
  exact (List.mem_append.mp hmem).elim (hno' n m) (hno n m)

/-- What leaves the outputs alone. -/
theorem same {r : State} (h : s.SparesDown t) (houtputs : r.outputs = t.outputs) : s.SparesDown r :=
  h.trans (.of_outputs houtputs)

theorem carries {r : State} (h : s.SparesDown t) (hr : t.Carries r) : s.SparesDown r := h.same hr.outputs

theorem emit (h : s.SparesDown t) {o : Output} (ho : ∀ n m, o ≠ .message (.down n) m) : s.SparesDown (t.emit o) :=
  h.trans ⟨[o], rfl, fun n m hmem => ho n m (List.mem_singleton.mp hmem).symm⟩

/-! ### The upstream transmitters (R122 to R124, R170, R171) -/

theorem emitUp (h : s.SparesDown t) (x : UPort) (m : Message) : s.SparesDown (t.emit (.message (.up x) m)) :=
  h.emit fun _ _ heq => by cases heq

theorem sendCr (h : s.SparesDown t) (x : UPort) : s.SparesDown (t.sendCr x) := (h.emitUp x _).same rfl

theorem sendPart (h : s.SparesDown t) (x : UPort) : s.SparesDown (t.sendPart x) := by
  unfold State.sendPart
  split
  · exact h
  · exact (h.emitUp x _).same rfl

theorem sendNotice (h : s.SparesDown t) (x : UPort) : s.SparesDown (t.sendNotice x) := by
  unfold State.sendNotice
  split
  · have hcancelled : s.SparesDown (t.onNotice NoticeUnit.cancel) := h.same rfl
    exact hcancelled.sendPart x
  · exact (h.emitUp x _).same rfl

/-! ### Management writes (R52, R131, R142, R180, R187) -/

theorem forceDown (h : s.SparesDown t) (n : DPort) : s.SparesDown (t.forceDown n) := by
  unfold State.forceDown
  split
  · exact (h.carries (t.linkDown_bereaves n).carries).emit fun _ _ heq => by cases heq
  · exact h

theorem runCommand (h : s.SparesDown t) (c : Command) (port : BitVec 8) : s.SparesDown (t.runCommand c port) := by
  unfold State.runCommand
  split
  · exact h.carries ((State.Carries.refl t).fenceEvent _ _)
  · unfold State.unfence
    split
    · exact h.same rfl
    · exact h
  · unfold State.retrain
    split
    · exact (h.forceDown _).carries (State.allocate_carries _)
    · exact h
  all_goals exact h.same rfl

theorem writeCommand (h : s.SparesDown t) (v : Word) : s.SparesDown (t.writeCommand v) := by
  have hrecorded : s.SparesDown (t.recordCommand v) := h.same rfl
  unfold State.writeCommand
  split
  · exact hrecorded.runCommand _ _
  · exact hrecorded

end State.SparesDown

theorem State.storeUp_outputs {s t : State} {x : UPort} {reg : UpReg} {v : Word} (h : s.storeUp x reg v = some t) :
    t.outputs = s.outputs := by
  cases reg <;> simp only [State.storeUp, Option.map_eq_some_iff, reduceCtorEq] at h
  all_goals
    obtain ⟨_, -, rfl⟩ := h
    rfl

theorem State.storeDown_outputs {s t : State} {n : DPort} {reg : DownReg} {v : Word} (h : s.storeDown n reg v = some t) :
    t.outputs = s.outputs := by
  cases reg <;> simp only [State.storeDown, Option.map_eq_some_iff, reduceCtorEq] at h
  all_goals
    obtain ⟨_, -, rfl⟩ := h
    rfl

/-- A setting or an action taken by its register hands nothing out (R178, R180). -/
theorem State.store_outputs {s t : State} {reg : Reg} {v : Word} (h : s.store reg v = some t) : t.outputs = s.outputs := by
  cases reg with
  | up x reg => exact State.storeUp_outputs h
  | down n reg => exact State.storeDown_outputs h
  | mgmtPermit | mgmtBaseLo | noticeAddrLo =>
    simp only [State.store, Option.ite_none_left_eq_some, Option.ite_none_right_eq_some, Option.some.injEq] at h
    obtain ⟨-, rfl⟩ := h
    rfl
  | mgmtBaseHi | enable | clear | noticeAck | noticeAddrHi | matchUnit _ _ | release =>
    cases h
    rfl
  | noticePort | noticeRepeat | combine | trigger | capMgmt | capDefault | postCount | threshold | mode | staging _ _ =>
    obtain ⟨_, -, rfl⟩ := Option.map_eq_some_iff.mp h
    rfl
  | _ => cases h

namespace State.SparesDown

variable {s t : State}

theorem elim_store (h : s.SparesDown t) (reg : Reg) (v : Word) {f : State → State} (hf : ∀ r : State, r.Carries (f r)) :
    s.SparesDown ((t.store reg v).elim t f) := by
  cases hstore : t.store reg v with
  | none => exact h
  | some r => exact (h.same (State.store_outputs hstore)).carries (hf r)

theorem access (h : s.SparesDown t) (reg : Reg) (v : Word) : s.SparesDown (t.access reg v) := by
  unfold State.access
  split
  · unfold State.runControl
    split
    · exact h.same rfl
    · split
      · exact h.same rfl
      · exact h
  · exact h.writeCommand v
  · exact h.elim_store _ v State.allocate_carries
  · exact h.elim_store _ v fun r => (State.Carries.refl r).orphanTestEvent _
  · rw [getD_eq_elim]
    exact h.elim_store _ v State.Carries.refl

/-- SOFT_RESET asks the physical layers to re-establish links, and sends no message (R131, R187). -/
theorem softReset (s : State) (x : UPort) (r : Request) (v : Word) : s.SparesDown (s.softReset x r v) := by
  have hanswered : s.SparesDown (s.softAnsweredAll x r v) := by
    refine ⟨_, s.softAnsweredAll_outputs x r v, fun n m hmem => ?_⟩
    obtain ⟨_, -, heq⟩ := List.mem_map.mp (List.mem_reverse.mp hmem)
    cases heq
  rw [State.softReset_eq]
  generalize s.softAnsweredAll x r v = u at hanswered ⊢
  exact hanswered.same rfl

theorem performWrite (s : State) (x : UPort) (r : Request) (reg : Reg) (v : Word) :
    s.SparesDown (s.performWrite x r reg v) := by
  have haccessed (status : Status) : s.SparesDown ((s.answer x r status).access reg v) :=
    ((refl s).carries (s.answer_carries x r status)).access reg v
  unfold State.performWrite
  split
  · exact .softReset s x r v
  · split
    · exact (haccessed _).carries (State.resolveHead_carries ..)
    · exact (haccessed _).carries (State.resolveHead_carries ..)

/-! ### Dispatch (R47 to R56, R60) -/

theorem resolveOutcome (s : State) (x : UPort) (r : Request) (o : HeadOutcome) : s.SparesDown (s.resolveOutcome x r o) := by
  have hcounted (i : Fin 16) : s.SparesDown (s.countHit i) := .of_outputs rfl
  cases o with
  | rejected => exact (refl s).carries (s.resolveHead_carries ..)
  | illFormed | mgmtRefused _ _ => exact (refl s).carries (s.refuseHead_carries ..)
  | mgmtRead reg => exact (refl s).carries ((s.placePart_carries x _).trans (State.resolveHead_carries ..))
  | mgmtWrite reg v => exact .performWrite s x r reg v
  | windowDenied i _ | unavailable i _ => exact (hcounted i).carries (State.refuseHead_carries ..)
  | forward d => exact (hcounted d.window).carries ((State.Carries.refl _).onUp x _).allocate
  | noHit a =>
    cases a with
    | unmappedError => exact (refl s).carries (s.refuseHead_carries ..)
    | zeroFill =>
      refine (refl s).carries (State.Carries.trans ?_ (State.resolveHead_carries ..))
      split
      · exact (State.Carries.refl s).foldl (fun t p ht => ht.trans (t.placePart_carries x p)) _
      · exact s.placePart_carries x _
      · exact .refl s

theorem dispatch (s : State) (x : UPort) : s.SparesDown (s.dispatch x) := by
  unfold State.dispatch
  split
  · exact .resolveOutcome s x _ _
  · exact .refl s

theorem forwardHead (s : State) (x : UPort) : s.SparesDown (s.forwardHead x) := by
  unfold State.forwardHead
  split
  · exact .resolveOutcome s x _ _
  · exact .refl s
  · split
    · exact (refl s).carries s.allocate_carries
    · exact .refl s

theorem dispatchWrite (s : State) (x : UPort) (row : Reg → Word → Bool) : s.SparesDown (s.dispatchWrite x row) := by
  unfold State.dispatchWrite
  split
  · split
    · exact .resolveOutcome s x _ _
    · exact .refl s
  · exact .refl s

/-! ### Every command but ISSUE -/

theorem of_running {f : State → State} (hf : ∀ s : State, s.SparesDown (f s)) (hexec : whileRunning s f = .next t) :
    s.SparesDown t :=
  of_whileRunning hexec (refl s) (hf s)

theorem of_carrying {f : State → State} (hf : ∀ s : State, s.Carries (f s)) (hexec : whileRunning s f = .next t) :
    s.SparesDown t :=
  of_running (fun s => (refl s).carries (hf s)) hexec

/-- A transmitter takes a message of the kind the arbiter chooses, or nothing. -/
theorem of_chosen {x : UPort} {c : Candidate} {f : State → State} (hf : ∀ s : State, s.SparesDown (f s))
    (hexec : whileRunning s (fun s => if s.arbiterChoice x = some c then f s else s) = .next t) : s.SparesDown t := by
  refine of_running (fun s => ?_) hexec
  split
  · exact hf s
  · exact .refl s

end State.SparesDown

/-- No command but ISSUE hands a message to a downstream transmitter (R112, R115). -/
theorem exec_sparesDown {c : Instr} {s t : State} (hissue : ∀ n, c ≠ .issue n) (hexec : exec c s = .next t) :
    s.SparesDown t := by
  cases c with
  | issue n => exact absurd rfl (hissue n)
  | powerOnReset _ | resetNAsserted =>
    cases hexec
    exact .of_outputs rfl
  | upstreamLinkUp x => exact .of_carrying (fun s => (State.Carries.refl s).upstreamLinkUp x) hexec
  | upstreamLinkDown x => exact .of_carrying (fun s => (State.Carries.refl s).upstreamLinkDown x) hexec
  | downstreamLinkUp n => exact .of_carrying (fun s => (State.Carries.refl s).downstreamLinkUp n) hexec
  | downstreamLinkDown n => exact .of_carrying (fun s => (State.Carries.refl s).downstreamLinkDown n) hexec
  | requestArrival _ _ | upstreamCrArrival _ _ | partArrival _ _ | downstreamCrArrival _ _ =>
    exact .of_carrying (fun s => (State.Carries.refl s).arrive _ _) hexec
  | damagedMessageArrival p delivered =>
    exact .of_carrying (fun s => (State.Carries.refl s).arriveDamaged p delivered) hexec
  | misdirectedMessageArrival m => cases m <;> exact .of_carrying (fun s => (State.Carries.refl s).arrive _ _) hexec
  | dispatch x => exact .of_running (fun s => .dispatch s x) hexec
  | forwarding x => exact .of_running (fun s => .forwardHead s x) hexec
  | crTransmit x => exact .of_chosen (fun s => (State.SparesDown.refl s).sendCr x) hexec
  | responsePartTransmit x => exact .of_chosen (fun s => (State.SparesDown.refl s).sendPart x) hexec
  | noticeTransmit x => exact .of_chosen (fun s => (State.SparesDown.refl s).sendNotice x) hexec
  | expiry k => exact .of_carrying (fun s => (State.Carries.refl s).expire k) hexec
  | repeatExpiry =>
    refine .of_running (fun s => .of_outputs ?_) hexec
    unfold State.repeatExpire
    split <;> rfl
  | timeAdvance =>
    refine .of_running (fun s => .of_outputs ?_) hexec
    rcases s.advance_only with heq | heq <;> rw [heq]
  | softReset _ | fenceCommand _ _ | unfence _ _ | retrain _ _ | clearCounters _ | captureArm _ | captureStop _
  | captureClear _ | unknownCommand _ _ | commit _ _ | disable _ _ | mgmtBaseLoWrite _ _ | reserveWrite _ _ _
  | orphanLimitWrite _ _ _ | enableWrite _ _ | clearWrite _ _ | noticeAck _ _ | captureRelease _ | settingWrite _ _ _ =>
    exact .of_running (fun s => .dispatchWrite s _ _) hexec

/-! ### ISSUE (R112, R115, R116) -/

/-- One message goes out on Dn, which is in service, for one credit. -/
structure State.SendsDown (s t : State) (n : DPort) (m : Message) : Prop where
  outputs : t.outputs = [.message (.down n) m] ++ s.outputs
  link    : (s.down.get n).link = .up
  fenced  : (s.down.get n).fenced = false
  credit  : 1 ≤ (s.down.get n).credits
  credits : (t.down.get n).credits = (s.down.get n).credits - 1

theorem State.allocate_credits (s : State) (n : DPort) : (s.allocate.down.get n).credits = (s.down.get n).credits := by
  obtain ⟨items, admission, heq⟩ := s.allocate_down n
  rw [heq]

theorem State.issueEntry_outputs (s : State) (item : EgressItem) : (s.issueEntry item).outputs = s.outputs := by
  cases item <;> rfl

theorem State.issueEntry_down (s : State) (item : EgressItem) : (s.issueEntry item).down = s.down := by cases item <;> rfl

/-- An issue changes nothing where a condition fails, and otherwise sends the request of the head item (R115, R116). -/
theorem State.issueHead_sends (s : State) (n : DPort) : s.issueHead n = s ∨ ∃ m, s.SendsDown (s.issueHead n) n m := by
  cases hservice : s.available n with
  | false => exact .inl (State.issueHead_of_idle (.inl hservice))
  | true =>
    rcases Nat.eq_zero_or_pos (s.down.get n).credits with hnone | hcredit
    · exact .inl (State.issueHead_of_idle (.inr (.inl hnone)))
    · cases hqueue : (s.down.get n).egress with
      | nil => exact .inl (State.issueHead_of_idle (.inr (.inr hqueue)))
      | cons item rest =>
        obtain ⟨hlink, hfenced⟩ := State.available_iff.mp hservice
        refine .inr ⟨.request (s.requestOfItem item), ?_, hlink, hfenced, hcredit, ?_⟩
        · rw [State.issueHead_of_ready hservice hcredit hqueue, (State.allocate_carries _).outputs,
            State.issueEntry_outputs, State.onDown_outputs, State.emit_outputs, List.singleton_append]
        · rw [State.issueHead_of_ready hservice hcredit hqueue, State.allocate_credits, State.issueEntry_down,
            State.onDown_down, PerDown.get_modify_self, State.emit_down]

theorem exec_issue_sends {n : DPort} {s t : State} (hexec : exec (.issue n) s = .next t) :
    t = s ∨ ∃ m, s.SendsDown t n m :=
  of_whileRunning (f := fun s => s.issueHead n) (P := fun t => t = s ∨ ∃ m, s.SendsDown t n m) hexec (.inl rfl)
    (s.issueHead_sends n)

/-- Settles O60: every command but ISSUE spares the downstream transmitters, and ISSUE sends to its own port alone, the
message of one item. -/
theorem requestsGoOutOnlyForCreditsInService : Obligations.RequestsGoOutOnlyForCreditsInService := by
  intro c s t hexec
  by_cases hissue : ∃ n, c = .issue n
  · obtain ⟨n, rfl⟩ := hissue
    rcases exec_issue_sends hexec with rfl | ⟨m, houtputs, hlink, hfenced, hcredit, hcredits⟩
    · exact ⟨[], rfl, fun _ _ hmem => absurd hmem List.not_mem_nil⟩
    · refine ⟨_, houtputs, fun n' m' hmem => ?_⟩
      cases List.mem_singleton.mp hmem
      exact ⟨rfl, rfl, hlink, hfenced, hcredit, hcredits⟩
  · obtain ⟨added, houtputs, hno⟩ := exec_sparesDown (fun n heq => hissue ⟨n, heq⟩) hexec
    exact ⟨added, houtputs, fun n m hmem => absurd hmem (hno n m)⟩

end Sys2Proof.Machine
end

section
/-! PROOFS. What a command may do to a fence (R134, R135, R141, R187): no command but DOWNSTREAM_LINK_UP brings a port UP, and no
other clears the fence of a port that has not been DOWN since it was set. -/

namespace Sys2Proof.Machine

-- One after another: checked side by side, the theorems exceed the memory limit of check.sh.
set_option Elab.async false

/-! ### A port whose fence holds -/

/-- The fence is cleared only after RETRAINED or with the port DOWN, and RETRAINED becomes set under a fence only with the port
DOWN (R134, R135); the link does not come up, so that this holds of one operation after another. -/
structure Downstream.HoldsFence (d e : Downstream) : Prop where
  link      : d.link = .down → e.link = .down
  cleared   : d.fenced = true → e.fenced = false → d.retrained = true ∨ e.link = .down
  retrained : e.fenced = true → e.retrained = true → d.fenced = true ∧ d.retrained = true ∨ e.link = .down

namespace Downstream.HoldsFence

variable {d e f : Downstream}

/-- What leaves the link and both flags. -/
theorem of_same (hlink : e.link = d.link) (hfenced : e.fenced = d.fenced) (hretrained : e.retrained = d.retrained) :
    d.HoldsFence e := by
  refine ⟨hlink.trans, fun hset hclear => ?_, fun hset hback => .inl ⟨hfenced ▸ hset, hretrained ▸ hback⟩⟩
  rw [hfenced, hset] at hclear
  cases hclear

theorem refl (d : Downstream) : d.HoldsFence d := of_same rfl rfl rfl

theorem of_down (h : e.link = .down) : d.HoldsFence e := ⟨fun _ => h, fun _ _ => .inr h, fun _ _ => .inr h⟩

theorem trans (h : d.HoldsFence e) (h' : e.HoldsFence f) : d.HoldsFence f := by
  refine ⟨h'.link ∘ h.link, fun hset hclear => ?_, fun hset hback => ?_⟩
  · cases hmid : e.fenced with
    | false => exact (h.cleared hset hmid).imp_right h'.link
    | true =>
      rcases h'.cleared hmid hclear with hback | hdown
      · exact (h.retrained hmid hback).imp And.right h'.link
      · exact .inr hdown
  · rcases h'.retrained hset hback with ⟨hmid, hmidback⟩ | hdown
    · exact (h.retrained hmid hmidback).imp_right h'.link
    · exact .inr hdown

/-- A fence newly set finds RETRAINED only on a port that is DOWN (R134). -/
theorem fencedFor (h : d.fenced = false) (reason : FenceReason) : d.HoldsFence (d.fencedFor reason) :=
  ⟨id, fun hset => absurd (h.symm.trans hset) Bool.false_ne_true, fun _ hback => .inr (beq_iff_eq.mp hback)⟩

/-- UNFENCE asks for RETRAINED (R141). -/
theorem unfenced (h : d.retrained = true) : d.HoldsFence { d with fenced := false } := ⟨id, fun _ _ => .inl h, nofun⟩

end Downstream.HoldsFence

/-- The fence of every downstream port holds from s to t. -/
def State.HoldsFences (s t : State) : Prop := ∀ n, (s.down.get n).HoldsFence (t.down.get n)

namespace State.HoldsFences

variable {s t : State}

theorem refl (s : State) : s.HoldsFences s := fun _ => .refl _

theorem trans {r : State} (h : s.HoldsFences t) (h' : t.HoldsFences r) : s.HoldsFences r := fun n => (h n).trans (h' n)

theorem same {r : State} (h : s.HoldsFences t) (hdown : r.down = t.down) : s.HoldsFences r := fun n => hdown ▸ h n

theorem onDown (h : s.HoldsFences t) (n : DPort) {f : Downstream → Downstream}
    (hf : (t.down.get n).HoldsFence (f (t.down.get n))) : s.HoldsFences (t.onDown n f) := by
  refine h.trans fun m => ?_
  rw [State.onDown_down, PerDown.get_modify]
  split
  · next hm => rw [hm]; exact hf
  · exact .refl _

theorem countDown (h : s.HoldsFences t) (n : DPort) (f : DownCounters → DownCounters) : s.HoldsFences (t.countDown n f) :=
  h.onDown n (.of_same rfl rfl rfl)

theorem raise (h : s.HoldsFences t) (c : Cause) : s.HoldsFences (t.raise c) := h.same rfl

/-- What recedes leaves the links and the fences, whatever comes to the upstream ports and whichever port gets orphans. -/
theorem recedes {r : State} (h : s.HoldsFences t) (hr : t.Recedes (fun _ => True) (fun _ => True) r) : s.HoldsFences r :=
  h.trans fun n => .of_same (hr.down n).link (hr.down n).fenced (hr.down n).retrained

theorem foldl {α : Type} (h : s.HoldsFences t) {f : State → α → State}
    (hf : ∀ r a, s.HoldsFences r → s.HoldsFences (f r a)) (l : List α) : s.HoldsFences (l.foldl f t) :=
  List.foldlRecOn l f h fun r hr a _ => hf r a hr

/-! ### The allocation event, the fence and the link-down (R73, R119, R130, R134) -/

theorem allocate (h : s.HoldsFences t) : s.HoldsFences t.allocate := h.trans fun n => by
  obtain ⟨items, admission, hjoins⟩ := t.allocate_down n
  rw [hjoins]
  exact .of_same rfl rfl rfl

theorem fence (h : s.HoldsFences t) (n : DPort) (reason : FenceReason) : s.HoldsFences (t.fence n reason) := by
  cases hfenced : (t.down.get n).fenced with
  | true => rwa [State.fence_of_fenced hfenced]
  | false =>
    refine (h.onDown n (f := fun d => (d.fencedFor reason).flushed) ?_).same (State.fence_bereaves hfenced reason).down
    exact (Downstream.HoldsFence.fencedFor hfenced reason).trans (.of_same rfl rfl rfl)

theorem linkDown (h : s.HoldsFences t) (n : DPort) : s.HoldsFences (t.linkDown n) :=
  (h.onDown n (f := fun d => d.unlinked.flushed) (.of_down rfl)).same (t.linkDown_bereaves n).down

theorem orphanTest (h : s.HoldsFences t) (n : DPort) : s.HoldsFences (t.orphanTest n) := by
  unfold State.orphanTest
  split
  · exact h.fence n _
  · exact h

theorem fenceEvent (h : s.HoldsFences t) (n : DPort) (reason : FenceReason) : s.HoldsFences (t.fenceEvent n reason) := by
  unfold State.fenceEvent
  split
  · exact h
  · exact (h.fence n reason).allocate

theorem orphanTestEvent (h : s.HoldsFences t) (n : DPort) : s.HoldsFences (t.orphanTestEvent n) := by
  unfold State.orphanTestEvent
  split
  · exact h.fenceEvent n _
  · exact h

theorem forceDown (h : s.HoldsFences t) (n : DPort) : s.HoldsFences (t.forceDown n) := by
  unfold State.forceDown
  split
  · exact (h.linkDown n).same (State.emit_down _ _)
  · exact h

/-! ### Entries that end (R80 to R84, R98 to R101) -/

theorem retire_orphan (h : s.HoldsFences t) (k : Fin 128) (status : Status) (n : DPort) :
    s.HoldsFences (((t.retire k status).orphan k).orphanTestEvent n) :=
  (h.same (r := (t.retire k status).orphan k) (t.retire_down k status)).orphanTestEvent n

theorem retire_release (h : s.HoldsFences t) (k : Fin 128) (status : Status) :
    s.HoldsFences ((t.retire k status).release k).allocate :=
  (h.same (r := (t.retire k status).release k) (t.retire_down k status)).allocate

theorem expire (h : s.HoldsFences t) (k : Fin 128) : s.HoldsFences (t.expire k) := by
  unfold State.expire
  split
  · have hcounted : s.HoldsFences
        ((t.countDown (t.entry k).egress fun c => { c with timeouts := satInc c.timeouts }).raise .timeout) :=
      (h.countDown _ _).raise _
    unfold State.expireEntry
    split
    · exact (hcounted.recedes ((State.Recedes.refl _).dropItem k)).retire_release k _
    · exact hcounted.retire_orphan k _ _
    · exact hcounted.retire_orphan k _ _
    · exact hcounted
    · exact hcounted
  · exact h

theorem endAnswer (h : s.HoldsFences t) (n : DPort) (k : Fin 128) (status : Status) (last : Bool) :
    s.HoldsFences (t.endAnswer n k status last) := by
  cases last with
  | true => exact h.retire_release k status
  | false => exact h.retire_orphan k status n

theorem forwardPart (h : s.HoldsFences t) (k : Fin 128) (p : Part) : s.HoldsFences (t.forwardPart k p) :=
  (h.same (r := (t.placePart _ _).onEntry k _) (t.placePart_down _ _)).expire k

theorem forwardLast (h : s.HoldsFences t) (k : Fin 128) (p : Part) : s.HoldsFences (t.forwardLast k p) :=
  (h.same (r := (((t.placePart _ _).onEntry k _).complete k .ok).release k)
    ((State.complete_down _ k .ok).trans (t.placePart_down _ _))).allocate

/-! ### Arrivals (R19, R20, R46, R78, R117, R136 to R138) -/

theorem livePart (h : s.HoldsFences t) (n : DPort) (k : Fin 128) (p : Part) : s.HoldsFences (t.livePart n k p) := by
  unfold State.livePart
  split
  · exact h.endAnswer n k _ _
  · split
    · split
      · exact h.forwardLast k p
      · exact h.forwardPart k p
    · exact (h.countDown n _).endAnswer n k _ _

theorem latePart (h : s.HoldsFences t) (n : DPort) (k : Fin 128) (last : Bool) : s.HoldsFences (t.latePart n k last) := by
  unfold State.latePart
  dsimp only
  split
  · exact ((h.countDown n _).recedes ((State.Recedes.refl _).release k)).allocate
  · exact h.countDown n _

theorem partArrives (h : s.HoldsFences t) (n : DPort) (p : Part) : s.HoldsFences (t.partArrives n p) := by
  unfold State.partArrives
  split
  · exact (h.countDown n _).raise _
  · exact h.latePart n _ _
  · exact h.livePart n _ p

theorem crArrivesDown (h : s.HoldsFences t) (n : DPort) (count : BitVec 7) : s.HoldsFences (t.crArrivesDown n count) := by
  unfold State.crArrivesDown
  dsimp only
  split
  · split
    · exact h.onDown n (.of_same rfl rfl rfl)
    · exact h.countDown n _
  · split
    · exact h.onDown n (.of_same rfl rfl rfl)
    · exact (h.countDown n _).fenceEvent n _

theorem countDamaged (h : s.HoldsFences t) (p : Port) : s.HoldsFences (t.countDamaged p) := by
  cases p with
  | up x => exact h.same rfl
  | down n =>
    have hcounted := h.recedes (((State.Recedes.refl t).onDown n (f := fun d =>
      { d with
        badRun := satInc d.badRun
        goodRun := 0
        counters := { d.counters with damaged := satInc d.counters.damaged } }) ⟨rfl, rfl, rfl, rfl, id⟩).degradeTest n)
    unfold State.countDamaged State.damageTest
    dsimp only
    split
    · exact hcounted.fenceEvent n _
    · exact hcounted

theorem receive (h : s.HoldsFences t) (p : Port) (m : Message) : s.HoldsFences (t.receive p m) := by
  have hgood (n : DPort) : s.HoldsFences (t.countGood n) := h.recedes ((State.Recedes.refl t).countGood n)
  unfold State.receive
  split
  · exact h.recedes ((State.Recedes.refl t).requestArrives trivial _)
  · exact h.recedes ((State.Recedes.refl t).crArrivesUp _ _)
  · exact h.same rfl
  · exact (hgood _).partArrives _ _
  · exact (hgood _).crArrivesDown _ _
  · exact ((hgood _).countDown _ _).raise _

theorem arrive (h : s.HoldsFences t) (p : Port) (m : Message) : s.HoldsFences (t.arrive p m) := by
  unfold State.arrive
  split
  · exact h
  · split
    · exact h.receive p m
    · exact h.countDamaged p

theorem arriveDamaged (h : s.HoldsFences t) (p : Port) (delivered : Option (List Byte)) :
    s.HoldsFences (t.arriveDamaged p delivered) := by
  unfold State.arriveDamaged
  split
  · exact h
  · split
    · exact h.arrive p _
    · exact h.countDamaged p

/-! ### Links and issue (R66, R67, R115, R130) -/

theorem upstreamLinkUp (h : s.HoldsFences t) (x : UPort) : s.HoldsFences (t.upstreamLinkUp x) := by
  unfold State.upstreamLinkUp
  split
  · exact h
  · exact h.same rfl

theorem upstreamLinkDown (h : s.HoldsFences t) (x : UPort) : s.HoldsFences (t.upstreamLinkDown x) := by
  cases hlink : (t.up.get x).link with
  | down => rwa [State.upstreamLinkDown, if_pos hlink]
  | up =>
    rw [State.upstreamLinkDown_eq hlink]
    have hdeparted : s.HoldsFences (t.departed x) := h.trans fun n => by
      obtain ⟨q, -, hthinned⟩ := t.departed_down x n
      rw [hthinned]
      exact .of_same rfl rfl rfl
    exact (hdeparted.foldl (fun _ n hr => hr.orphanTest n) DPort.all).allocate

theorem downstreamLinkDown (h : s.HoldsFences t) (n : DPort) : s.HoldsFences (t.downstreamLinkDown n) := by
  unfold State.downstreamLinkDown
  split
  · exact h
  · exact (h.linkDown n).allocate

theorem issueHead (h : s.HoldsFences t) (n : DPort) : s.HoldsFences (t.issueHead n) := by
  unfold State.issueHead
  split
  · exact h
  · next item rest _ =>
    split
    · have htaken := (h.same (r := t.emit (.message (.down n) (.request (t.requestOfItem item)))) rfl).onDown n
        (f := fun d =>
          { d with
            egress := rest
            credits := d.credits - 1
            counters := { d.counters with requestsSent := satInc d.counters.requestsSent } }) (.of_same rfl rfl rfl)
      exact (htaken.same (State.issueEntry_down _ item)).allocate
    · exact h

/-! ### Management writes (R105, R140 to R142, R180, R187) -/

theorem unfence (h : s.HoldsFences t) (n : DPort) : s.HoldsFences (t.unfence n) := by
  unfold State.unfence
  split
  · next hback => exact h.onDown n (.unfenced hback)
  · exact h

theorem runCommand (h : s.HoldsFences t) (c : Command) (port : BitVec 8) : s.HoldsFences (t.runCommand c port) := by
  unfold State.runCommand
  split
  · exact h.fenceEvent _ _
  · exact h.unfence _
  · unfold State.retrain
    split
    · exact (h.forceDown _).allocate
    · exact h
  · exact h
  · exact h
  · exact h
  · exact h.recedes (State.Recedes.refl t).clearCounters
  · exact h.same rfl
  · exact h.same rfl
  · exact h.same rfl
  · exact h

theorem writeCommand (h : s.HoldsFences t) (v : Word) : s.HoldsFences (t.writeCommand v) := by
  have hrecorded : s.HoldsFences (t.recordCommand v) := h.same rfl
  unfold State.writeCommand
  split
  · exact hrecorded.runCommand _ _
  · exact hrecorded

theorem access (h : s.HoldsFences t) (reg : Reg) (v : Word) : s.HoldsFences (t.access reg v) := by
  unfold State.access
  split
  · exact h.recedes ((State.Recedes.refl t).runControl _ v)
  · exact h.writeCommand v
  · next x =>
    cases hstore : t.store (.up x .reserve) v with
    | none => exact h
    | some r => exact (h.recedes ((State.Recedes.refl t).store (reg := .up x .reserve) (fun _ => nofun) hstore)).allocate
  · next n =>
    cases hstore : t.store (.down n .orphanLimit) v with
    | none => exact h
    | some r =>
      obtain ⟨k, -, rfl⟩ := Option.map_eq_some_iff.mp hstore
      exact (h.onDown n (.of_same rfl rfl rfl)).orphanTestEvent n
  · next hreg => exact h.recedes ((State.Recedes.refl t).getD_store hreg v)

/-- Soft reset clears the fences, and leaves every downstream port DOWN (R135, R187). -/
theorem softReset (s : State) (x : UPort) (r : Request) (v : Word) : s.HoldsFences (s.softReset x r v) := fun n => by
  refine .of_down ?_
  rw [State.softReset_eq, State.softValues_countUp_down, State.softAnsweredAll_down]
  split
  · rfl
  · next hlink =>
    cases hstate : (s.down.get n).link with
    | down => exact hstate
    | up => exact absurd hstate hlink

/-! ### Dispatch (R47 to R56, R60) -/

theorem performWrite (s : State) (x : UPort) (r : Request) (reg : Reg) (v : Word) :
    s.HoldsFences (s.performWrite x r reg v) := by
  have haccessed (status : Status) : s.HoldsFences ((s.answer x r status).access reg v) :=
    ((refl s).same (s.answer_down x r status)).access reg v
  unfold State.performWrite
  split
  · exact .softReset s x r v
  · split
    · exact (haccessed _).same (State.resolveHead_down ..)
    · exact (haccessed _).same (State.resolveHead_down ..)

theorem resolveOutcome (s : State) (x : UPort) (r : Request) (o : HeadOutcome) :
    s.HoldsFences (s.resolveOutcome x r o) := by
  cases o with
  | rejected => exact (refl s).same (s.resolveHead_down ..)
  | illFormed | mgmtRefused _ _ => exact (refl s).same (s.refuseHead_down ..)
  | mgmtRead reg => exact (refl s).same ((State.resolveHead_down ..).trans (s.placePart_down x _))
  | mgmtWrite reg v => exact .performWrite s x r reg v
  | windowDenied i _ | unavailable i _ => exact (refl s).same (State.refuseHead_down (s.countHit i) ..)
  | forward d => exact allocate ((refl s).same rfl)
  | noHit a =>
    cases a with
    | unmappedError => exact (refl s).same (s.refuseHead_down ..)
    | zeroFill =>
      refine (refl s).same ((State.resolveHead_down ..).trans ?_)
      split
      · exact foldl_keeps State.down _ (fun t p => t.placePart_down x p) _ s
      · exact s.placePart_down x _
      · rfl

theorem dispatch (s : State) (x : UPort) : s.HoldsFences (s.dispatch x) := by
  unfold State.dispatch
  split
  · exact .resolveOutcome s x _ _
  · exact .refl s

theorem forwardHead (s : State) (x : UPort) : s.HoldsFences (s.forwardHead x) := by
  unfold State.forwardHead
  split
  · exact .resolveOutcome s x _ _
  · exact .refl s
  · split
    · exact (refl s).allocate
    · exact .refl s

theorem dispatchWrite (s : State) (x : UPort) (row : Reg → Word → Bool) : s.HoldsFences (s.dispatchWrite x row) := by
  unfold State.dispatchWrite
  split
  · split
    · exact .resolveOutcome s x _ _
    · exact .refl s
  · exact .refl s

/-! ### Every command but DOWNSTREAM_LINK_UP -/

theorem of_running {f : State → State} (hf : ∀ s : State, s.HoldsFences (f s)) (hexec : whileRunning s f = .next t) :
    s.HoldsFences t :=
  of_whileRunning hexec (refl s) (hf s)

/-- A transmitter of an upstream port leaves the downstream ports. -/
theorem of_chosen {x : UPort} {c : Candidate} {f : State → State}
    (hf : ∀ s : State, s.Recedes (fun _ => True) (fun _ => True) (f s))
    (hexec : whileRunning s (fun s => if s.arbiterChoice x = some c then f s else s) = .next t) : s.HoldsFences t := by
  refine of_running (fun s => ?_) hexec
  split
  · exact (refl s).recedes (hf s)
  · exact .refl s

/-- At power-on every port is DOWN (R129, R190). -/
theorem of_powerOn {msel : BitVec 4} (hdown : t.down = (State.powerOn msel).down) : s.HoldsFences t := fun n => by
  rw [hdown]
  exact .of_down (by cases n <;> rfl)

end State.HoldsFences

/-- Under every command but DOWNSTREAM_LINK_UP the fences hold. -/
theorem exec_holdsFences {c : Instr} {s t : State} (hlink : ∀ n, c ≠ .downstreamLinkUp n) (hexec : exec c s = .next t) :
    s.HoldsFences t := by
  cases c with
  | downstreamLinkUp n => exact absurd rfl (hlink n)
  | powerOnReset msel =>
    cases hexec
    exact .of_powerOn (msel := msel) rfl
  | resetNAsserted =>
    cases hexec
    exact .of_powerOn (msel := s.strap) rfl
  | upstreamLinkUp x => exact .of_running (fun s => (State.HoldsFences.refl s).upstreamLinkUp x) hexec
  | upstreamLinkDown x => exact .of_running (fun s => (State.HoldsFences.refl s).upstreamLinkDown x) hexec
  | downstreamLinkDown n => exact .of_running (fun s => (State.HoldsFences.refl s).downstreamLinkDown n) hexec
  | requestArrival _ _ | upstreamCrArrival _ _ | partArrival _ _ | downstreamCrArrival _ _ =>
    exact .of_running (fun s => (State.HoldsFences.refl s).arrive _ _) hexec
  | damagedMessageArrival p delivered =>
    exact .of_running (fun s => (State.HoldsFences.refl s).arriveDamaged p delivered) hexec
  | misdirectedMessageArrival m => cases m <;> exact .of_running (fun s => (State.HoldsFences.refl s).arrive _ _) hexec
  | dispatch x => exact .of_running (fun s => .dispatch s x) hexec
  | forwarding x => exact .of_running (fun s => .forwardHead s x) hexec
  | issue n => exact .of_running (fun s => (State.HoldsFences.refl s).issueHead n) hexec
  | crTransmit x => exact .of_chosen (fun s => (State.Recedes.refl s).sendCr x) hexec
  | responsePartTransmit x => exact .of_chosen (fun s => (State.Recedes.refl s).sendPart x) hexec
  | noticeTransmit x => exact .of_chosen (fun s => (State.Recedes.refl s).sendNotice x) hexec
  | expiry k => exact .of_running (fun s => (State.HoldsFences.refl s).expire k) hexec
  | repeatExpiry =>
    exact .of_running (fun s => (State.HoldsFences.refl s).recedes (State.Recedes.refl s).repeatExpire) hexec
  | timeAdvance => exact .of_running (fun s => (State.HoldsFences.refl s).recedes (State.Recedes.refl s).advance) hexec
  | softReset _ | fenceCommand _ _ | unfence _ _ | retrain _ _ | clearCounters _ | captureArm _ | captureStop _
  | captureClear _ | unknownCommand _ _ | commit _ _ | disable _ _ | mgmtBaseLoWrite _ _ | reserveWrite _ _ _
  | orphanLimitWrite _ _ _ | enableWrite _ _ | clearWrite _ _ | noticeAck _ _ | captureRelease _ | settingWrite _ _ _ =>
    exact .of_running (fun s => .dispatchWrite s _ _) hexec

/-! ### DOWNSTREAM_LINK_UP (R129) -/

/-- A link that comes up leaves every fence and every RETRAINED. -/
theorem State.downstreamLinkUp_fence (s : State) (n m : DPort) :
    ((s.downstreamLinkUp n).down.get m).fenced = (s.down.get m).fenced
      ∧ ((s.downstreamLinkUp n).down.get m).retrained = (s.down.get m).retrained := by
  unfold State.downstreamLinkUp
  split
  · exact ⟨rfl, rfl⟩
  · rw [State.raise_down, State.onDown_down, PerDown.get_modify]
    split <;> exact ⟨rfl, rfl⟩

theorem exec_downstreamLinkUp_fence {n : DPort} {s t : State} (hexec : exec (.downstreamLinkUp n) s = .next t) (m : DPort) :
    (t.down.get m).fenced = (s.down.get m).fenced ∧ (t.down.get m).retrained = (s.down.get m).retrained := by
  obtain rfl | rfl : t = s ∨ t = s.downstreamLinkUp n :=
    of_whileRunning (f := fun s => s.downstreamLinkUp n) (P := fun t => t = s ∨ t = s.downstreamLinkUp n) hexec (.inl rfl)
      (.inr rfl)
  · exact ⟨rfl, rfl⟩
  · exact s.downstreamLinkUp_fence n m

/-- Settles O59: a link-up leaves both flags, and under every other command the fences hold. -/
theorem fenceIsClearedOnlyAfterDown : Obligations.FenceIsClearedOnlyAfterDown := by
  intro c m s t hexec
  by_cases hlink : ∃ n, c = .downstreamLinkUp n
  · obtain ⟨n, rfl⟩ := hlink
    obtain ⟨hfenced, hretrained⟩ := exec_downstreamLinkUp_fence hexec m
    refine ⟨fun hset hclear => ?_, fun hset hback => .inl ⟨hfenced ▸ hset, hretrained ▸ hback⟩⟩
    rw [hfenced, hset] at hclear
    cases hclear
  · obtain ⟨-, hcleared, hback⟩ := exec_holdsFences (fun n heq => hlink ⟨n, heq⟩) hexec m
    exact ⟨hcleared, hback⟩

end Sys2Proof.Machine
end

section
/-! PROOFS. A downstream port that is fenced or goes DOWN, settled (R62, R88, R89, R116, R119, R130, R132 to R134). -/

namespace Sys2Proof.Machine

-- One after another: checked side by side, the theorems exceed the memory limit of check.sh.
set_option Elab.async false

/-! ### Parts leave the head of a port, its credits and all counters but PROTOCOL (R127) -/

section
variable (u : Upstream) (ps : List Part)

theorem Upstream.receiveAll_ingress : (u.receiveAll ps).ingress = u.ingress := congrArg Head.ingress (u.receiveAll_head ps)

theorem Upstream.receiveAll_waiting : (u.receiveAll ps).waiting = u.waiting := congrArg Head.waiting (u.receiveAll_head ps)

theorem Upstream.receiveAll_pendingCredits : (u.receiveAll ps).pendingCredits = u.pendingCredits := by
  rw [Upstream.receiveAll_only]

theorem Upstream.receiveAll_unavailable : (u.receiveAll ps).counters.unavailable = u.counters.unavailable := by
  induction ps generalizing u with
  | nil => rfl
  | cons p ps ih =>
    have hone : (u.receive p).counters.unavailable = u.counters.unavailable := by
      unfold Upstream.receive
      split <;> rfl
    exact (ih (u.receive p)).trans hone

end

/-! ### The heads of the upstream ports (R62) -/

/-- A head that waits for Dn is answered and resolved UNAVAILABLE after the entries. -/
theorem State.bereft_of_waiting {s : State} {n : DPort} {y : UPort} {r : Request} {d : Decoded}
    (hhead : s.waitingHead y = some (r, d)) (hn : d.egress = n) :
    s.bereft n y =
      (((s.up.get y).receiveAll (s.lastParts n y ottIndices)).receiveAll (finalParts r .unavailable)).resolved .unavailable
        r.kind := by
  rw [State.bereft, Upstream.failed_of_waiting hhead (Upstream.receiveAll_head _ _), if_pos hn]

/-- Any other head stays. -/
theorem State.bereft_of_not_waitsFor {s : State} {n : DPort} {y : UPort} (h : s.waitsFor y n = false) :
    s.bereft n y = (s.up.get y).receiveAll (s.lastParts n y ottIndices) := by
  cases hhead : s.waitingHead y with
  | none => exact Upstream.failed_of_none hhead (Upstream.receiveAll_head _ _) n
  | some p =>
    obtain ⟨r, d⟩ := p
    have hn : d.egress ≠ n := fun hn => by
      rw [State.waitsFor_iff.mpr ⟨r, d, hhead, hn⟩] at h
      cases h
    rw [State.bereft, Upstream.failed_of_waiting hhead (Upstream.receiveAll_head _ _), if_neg hn]

namespace State.Bereaves

variable {s t : State} {n : DPort} {port : Downstream → Downstream} {end_ : OttEntry → OttEntry} {x : UPort}

theorem returnQueue (h : s.Bereaves t n port end_)
    (hroom : (s.up.get x).returnQueue.length + (s.unavailableParts n x).length ≤ 576) :
    (t.up.get x).returnQueue = (s.up.get x).returnQueue ++ s.unavailableParts n x := by
  rw [h.up]
  exact (State.bereft_answers hroom).returnQueue

theorem head_resolved (h : s.Bereaves t n port end_) {r : Request} {d : Decoded} (hhead : s.waitingHead x = some (r, d))
    (hn : d.egress = n) :
    (t.up.get x).ingress = (s.up.get x).ingress.tail ∧ (t.up.get x).waiting = none
      ∧ (t.up.get x).pendingCredits = satInc (s.up.get x).pendingCredits
      ∧ (t.up.get x).counters.unavailable = satInc (s.up.get x).counters.unavailable := by
  rw [h.up, State.bereft_of_waiting hhead hn]
  simp only [Upstream.resolved, UpCounters.countHead, Upstream.receiveAll_ingress, Upstream.receiveAll_pendingCredits,
    Upstream.receiveAll_unavailable, and_self]

theorem head_stays (h : s.Bereaves t n port end_) (hother : s.waitsFor x n = false) :
    (t.up.get x).ingress = (s.up.get x).ingress ∧ (t.up.get x).waiting = (s.up.get x).waiting
      ∧ (t.up.get x).pendingCredits = (s.up.get x).pendingCredits := by
  rw [h.up, State.bereft_of_not_waitsFor hother]
  exact ⟨Upstream.receiveAll_ingress _ _, Upstream.receiveAll_waiting _ _, Upstream.receiveAll_pendingCredits _ _⟩

theorem port_self (h : s.Bereaves t n port end_) : t.down.get n = port (s.down.get n) := by
  rw [h.down, PerDown.get_modify_self]

theorem port_other (h : s.Bereaves t n port end_) {m : DPort} (hm : m ≠ n) : t.down.get m = s.down.get m := by
  rw [h.down, PerDown.get_modify_ne _ _ hm]

end State.Bereaves

/-! ### The entries (R88, R89) -/

theorem OttEntry.cutOff_eq (n : DPort) (e : OttEntry) :
    e.cutOff n =
      if e.egress = n ∧ e.state ≠ .free then { e with state := .free, deadline := none, cap := false } else e := by
  by_cases hn : e.egress = n
  · rw [OttEntry.cutOff, if_neg (not_not.mpr hn)]
    cases hstate : e.state with
    | free => rw [if_neg fun h => h.2 rfl]
    | pending | issued | streaming | orphan => rw [if_pos ⟨hn, nofun⟩]; rfl
  · rw [OttEntry.cutOff_of_ne hn, if_neg fun h => hn h.1]

theorem OttEntry.fencedOff_eq (n : DPort) (e : OttEntry) :
    e.fencedOff n =
      if e.egress = n then
        match e.state with
        | .pending => { e with state := .free, deadline := none, cap := false }
        | .issued => { e with state := .orphan, deadline := none, cap := false }
        | .streaming => { e with state := .orphan, deadline := none, cap := false }
        | .orphan => e
        | .free => e
      else e := by
  by_cases hn : e.egress = n
  · rw [OttEntry.fencedOff, if_neg (not_not.mpr hn), if_pos hn]
    cases e.state <;> rfl
  · rw [OttEntry.fencedOff_of_ne hn, if_neg hn]

/-! ### The causes (R130, R133, R137) -/

/-- What follows the first effects on Dn itself loses no cause. -/
theorem EndsEntries.rest_carries {n : DPort} {step : State → Fin 128 → State} {end_ : OttEntry → OttEntry}
    (h : EndsEntries n step end_) (s : State) : s.Carries (((ottIndices.foldl step s).flush n).failWaitingHeads n) := by
  obtain ⟨-, -, -, hheads⟩ := ((ottIndices.foldl step s).flush n).failWaitingHeads_spec n
  exact ((h.all_carries s).onDown n _).trans hheads

/-- The first effects of a fence, on Dn itself (R132 to R134). -/
def State.fenceBegun (s : State) (n : DPort) (reason : FenceReason) : State :=
  (s.onDown n (Downstream.fencedFor reason)).raise (.fenced n)

theorem State.fence_eq {s : State} {n : DPort} (h : (s.down.get n).fenced = false) (reason : FenceReason) :
    s.fence n reason = ((ottIndices.foldl (State.fenceEntry n) (s.fenceBegun n reason)).flush n).failWaitingHeads n := by
  unfold State.fence
  rw [h, if_neg Bool.false_ne_true]
  rfl

/-- The first effects of a link-down, on Dn itself (R130, R137). -/
def State.linkDownBegun (s : State) (n : DPort) : State :=
  let u := (s.onDown n Downstream.unlinked).raise (.linkChange n)
  if (s.down.get n).degraded then u.raise (.degradedChange n) else u

theorem State.linkDown_eq (s : State) (n : DPort) :
    s.linkDown n = ((ottIndices.foldl (State.unlinkEntry n) (s.linkDownBegun n)).flush n).failWaitingHeads n := rfl

theorem State.fence_raises {s : State} {n : DPort} (h : (s.down.get n).fenced = false) (reason : FenceReason) :
    (s.fence n reason).notice.cause.getLsbD n.code = true := by
  rw [State.fence_eq h]
  exact ((fenceEntry_ends n).rest_carries (s.fenceBegun n reason)).causes _ (State.raise_sets _ (.fenced n))

theorem State.linkDown_raises (s : State) (n : DPort) : (s.linkDown n).notice.cause.getLsbD (4 + n.code) = true := by
  have hraised := (s.onDown n Downstream.unlinked).raise_sets (.linkChange n)
  rw [State.linkDown_eq]
  refine ((unlinkEntry_ends n).rest_carries (s.linkDownBegun n)).causes _ ?_
  unfold State.linkDownBegun
  dsimp only
  split
  · exact ((State.Carries.refl _).raise (.degradedChange n)).causes _ hraised
  · exact hraised

theorem State.linkDown_raises_degraded {s : State} {n : DPort} (h : (s.down.get n).degraded = true) :
    (s.linkDown n).notice.cause.getLsbD (8 + n.code) = true := by
  rw [State.linkDown_eq]
  refine ((unlinkEntry_ends n).rest_carries (s.linkDownBegun n)).causes _ ?_
  rw [State.linkDownBegun, if_pos h]
  exact State.raise_sets _ (.degradedChange n)

/-! ### The last-grant record (R74) -/

section
variable (s : State) (x : UPort) (n : DPort) (k : Fin 128)

theorem State.placePart_lastGrant (p : Part) : (s.placePart x p).lastGrant = s.lastGrant := by
  unfold State.placePart
  split <;> rfl

theorem State.answer_lastGrant (r : Request) (status : Status) : (s.answer x r status).lastGrant = s.lastGrant := by
  unfold State.answer
  split
  · rfl
  · exact s.placePart_lastGrant x _
  · exact s.placePart_lastGrant x _

theorem State.retire_lastGrant (status : Status) : (s.retire k status).lastGrant = s.lastGrant := by
  have hcomplete (t : State) : (t.complete k status).lastGrant = t.lastGrant := by
    unfold State.complete
    split
    · exact t.hand_lastGrant _ _ _
    · rfl
  exact (hcomplete _).trans (s.placePart_lastGrant _ _)

theorem State.fenceEntry_lastGrant : (s.fenceEntry n k).lastGrant = s.lastGrant := by
  unfold State.fenceEntry
  split
  · rfl
  · split
    · exact s.retire_lastGrant k _
    · exact s.retire_lastGrant k _
    · exact s.retire_lastGrant k _
    · rfl
    · rfl

theorem State.unlinkEntry_lastGrant : (s.unlinkEntry n k).lastGrant = s.lastGrant := by
  unfold State.unlinkEntry
  split
  · rfl
  · split
    · exact s.retire_lastGrant k _
    · exact s.retire_lastGrant k _
    · exact s.retire_lastGrant k _
    · rfl
    · rfl

theorem State.flush_lastGrant : (s.flush n).lastGrant = s.lastGrant := rfl

theorem State.failWaiting_lastGrant : (s.failWaiting x n).lastGrant = s.lastGrant := by
  unfold State.failWaiting
  split
  · split
    · exact (State.resolveHead_lastGrant ..).trans (s.answer_lastGrant ..)
    · rfl
  · rfl

theorem State.failWaitingHeads_lastGrant : (s.failWaitingHeads n).lastGrant = s.lastGrant := by
  unfold State.failWaitingHeads
  split
  · exact (State.failWaiting_lastGrant ..).trans (State.failWaiting_lastGrant ..)
  · exact (State.failWaiting_lastGrant ..).trans (State.failWaiting_lastGrant ..)

theorem State.fence_lastGrant (reason : FenceReason) : (s.fence n reason).lastGrant = s.lastGrant := by
  cases hfenced : (s.down.get n).fenced with
  | true => rw [State.fence_of_fenced hfenced]
  | false =>
    rw [State.fence_eq hfenced, State.failWaitingHeads_lastGrant, State.flush_lastGrant]
    exact foldl_keeps State.lastGrant (State.fenceEntry n) (State.fenceEntry_lastGrant · n ·) ottIndices
      (s.fenceBegun n reason)

theorem State.linkDown_lastGrant : (s.linkDown n).lastGrant = s.lastGrant := by
  have hbegun : (s.linkDownBegun n).lastGrant = s.lastGrant := by
    unfold State.linkDownBegun
    dsimp only
    split <;> rfl
  rw [State.linkDown_eq, State.failWaitingHeads_lastGrant, State.flush_lastGrant, ← hbegun]
  exact foldl_keeps State.lastGrant (State.unlinkEntry n) (State.unlinkEntry_lastGrant · n ·) ottIndices
    (s.linkDownBegun n)

end

/-! ### The link-down and the fence -/

/-- Settles O6: the command's own definition, and what a link-down leaves of the port, the table and the heads. -/
theorem downstreamLinkDownEmptiesPort : Obligations.DownstreamLinkDownEmptiesPort := by
  refine ⟨fun n s hheld => whileRunning_of_released hheld fun s => s.downstreamLinkDown n, fun n s => ?_⟩
  have h := s.linkDown_bereaves n
  have hkept := s.linkDown_kept n
  exact ⟨h.port_self, fun m hm => h.port_other hm, fun k => (h.entry k).trans (OttEntry.cutOff_eq n _),
    fun x hroom => h.returnQueue hroom, fun x r d hhead hn => h.head_resolved hhead hn, fun x hother => h.head_stays hother,
    s.linkDown_raises n, State.linkDown_raises_degraded, State.kept_settings hkept, State.kept_time hkept,
    h.carries.windows, s.linkDown_lastGrant n, h.carries.outputs⟩

/-- Settles O7: a fenced port is left alone, and what the fence leaves of an unfenced one, of the table and of the heads. -/
theorem fenceTakesThePortOutOfService : Obligations.FenceTakesThePortOutOfService := by
  refine fun n reason s => ⟨fun hfenced => State.fence_of_fenced hfenced reason, fun hclear => ?_⟩
  have h := State.fence_bereaves hclear reason
  have hkept := s.fence_kept n reason
  exact ⟨h.port_self, fun m hm => h.port_other hm, fun k => (h.entry k).trans (OttEntry.fencedOff_eq n _),
    fun x hroom => h.returnQueue hroom, fun x r d hhead hn => h.head_resolved hhead hn, fun x hother => h.head_stays hother,
    State.fence_raises hclear reason, State.kept_settings hkept, State.kept_time hkept, h.carries.windows,
    s.fence_lastGrant n reason, h.carries.outputs⟩

end Sys2Proof.Machine
end

section
/-! PROOFS. The port health unit (R19, R20, R136 to R138) and the port commands FENCE, UNFENCE and RETRAIN (R140 to R143, R184,
R185, R192). -/

namespace Sys2Proof

theorem DPort.ofCode_code (n : DPort) : DPort.ofCode n.code = some n := by cases n <;> rfl

/-- A port argument of 4 or more names no downstream port (R143). -/
theorem DPort.ofCode_eq_none {k : Nat} (h : 4 ≤ k) : DPort.ofCode k = none := by
  obtain ⟨j, rfl⟩ := Nat.exists_eq_add_of_le' h
  rfl

namespace Machine

-- One after another: checked side by side, the theorems exceed the memory limit of check.sh.
set_option Elab.async false

/-- 0x00 and the codes from 0x09 on name no command (R192). -/
theorem Command.ofCode_eq_none {k : Nat} (h : k = 0 ∨ 9 ≤ k) : Command.ofCode k = none := by
  rcases h with rfl | h
  · rfl
  · obtain ⟨j, rfl⟩ := Nat.exists_eq_add_of_le' h
    rfl

theorem State.onDown_onDown (s : State) (n : DPort) (f g : Downstream → Downstream) :
    (s.onDown n f).onDown n g = s.onDown n fun d => g (f d) := by
  simp only [State.onDown, PerDown.modify_modify]

/-! ### Good and damaged messages (R136 to R138) -/

/-- GOOD_RUN counts before it is tested against DEG_OFF (R136, R137). -/
theorem State.countGood_eq (s : State) (n : DPort) :
    s.countGood n =
      if (s.down.get n).degraded = true ∧ (s.down.get n).degOff ≤ (satInc (s.down.get n).goodRun).toNat then
        (s.onDown n fun d => { d with goodRun := satInc d.goodRun, badRun := 0, degraded := false }).raise (.degradedChange n)
      else s.onDown n fun d => { d with goodRun := satInc d.goodRun, badRun := 0 } := by
  simp only [State.countGood, State.recoverTest, State.onDown_down, PerDown.get_modify_self, State.onDown_onDown]

/-- BAD_RUN counts before it is tested against DEG_ON (R136, R137). -/
theorem State.degradeTest_damagedOnce (s : State) (n : DPort) : (s.damagedOnce n).degradeTest n = s.damagedTested n := by
  simp only [State.degradeTest, State.damagedTested, State.damagedOnce, State.onDown_down, PerDown.get_modify_self,
    Bool.not_eq_true]

/-- The test for DEGRADED leaves the fence, its limit and the run that both tests read (R137, R138). -/
theorem State.damagedTested_service (s : State) (n : DPort) :
    ((s.damagedTested n).down.get n).fenced = (s.down.get n).fenced
      ∧ ((s.damagedTested n).down.get n).fenceLimit = (s.down.get n).fenceLimit
      ∧ ((s.damagedTested n).down.get n).badRun = satInc (s.down.get n).badRun := by
  unfold State.damagedTested State.damagedOnce
  split <;> simp only [State.raise_down, State.onDown_down, PerDown.get_modify_self, and_self]

/-- A damaged message of Dn: the run, the test for DEGRADED, and the fence limit test with its allocation event (R136 to
R138). -/
theorem State.countDamaged_down (s : State) (n : DPort) :
    s.countDamaged (.down n) =
      if (s.down.get n).fenced = false ∧ (s.down.get n).fenceLimit ≤ (satInc (s.down.get n).badRun).toNat then
        ((s.damagedTested n).fence n .damage).allocate
      else s.damagedTested n := by
  obtain ⟨hfenced, hlimit, hrun⟩ := s.damagedTested_service n
  have htests : s.countDamaged (.down n) = (s.damagedTested n).damageTest n := by
    rw [← State.degradeTest_damagedOnce]
    rfl
  rw [htests, State.damageTest, State.fenceEvent, hfenced, hlimit, hrun]
  by_cases hreached : (s.down.get n).fenceLimit ≤ (satInc (s.down.get n).badRun).toNat
  · cases (s.down.get n).fenced <;> simp only [hreached, and_self, reduceCtorEq, false_and, if_true, if_false]
  · simp only [hreached, and_false, if_false]

theorem State.arriveDamaged_of_up {s : State} {p : Port} (h : s.linkOf p = .up) {delivered : Option (List Byte)}
    (hnone : delivered.bind Message.ofBytes = none) : s.arriveDamaged p delivered = s.countDamaged p := by
  rw [State.arriveDamaged, h, if_neg (by decide), hnone]

/-- Settles O14: the runs, then what a damaged and what a misdirected message does on a port that is UP. -/
theorem goodDamagedAndMisdirectedMessagesCount : Obligations.GoodDamagedAndMisdirectedMessagesCount := by
  refine ⟨⟨fun n s => s.countGood_eq n, fun delivered s hheld hnone => ⟨fun x hup => ?_, fun n hup => ?_⟩⟩,
    fun s hheld => ⟨fun x p hup hlen => ?_, fun n r hup hlen => ?_⟩⟩
  · refine (whileRunning_of_released hheld fun s => s.arriveDamaged (.up x) delivered).trans (congrArg _ ?_)
    exact State.arriveDamaged_of_up (p := .up x) hup hnone
  · refine (whileRunning_of_released hheld fun s => s.arriveDamaged (.down n) delivered).trans (congrArg _ ?_)
    rw [State.arriveDamaged_of_up (p := .down n) hup hnone, State.countDamaged_down]
  · refine (whileRunning_of_released hheld fun s => s.arrive (.up x) (.rsp p)).trans (congrArg _ ?_)
    rw [State.arrive_of_up (p := .up x) hup, if_pos (Message.usable_rsp_iff.mpr hlen)]
    rfl
  · refine (whileRunning_of_released hheld fun s => s.arrive (.down n) (.request r)).trans (congrArg _ ?_)
    rw [State.arrive_of_up (p := .down n) hup, if_pos (Message.usable_request_iff.mpr hlen)]
    rfl

/-! ### A write at COMMAND (R184, R185) -/

theorem State.recorded_down (s : State) (v : Word) (outcome : CommandOutcome) : (s.recorded v outcome).down = s.down := rfl

/-- The outcome rests on the downstream ports and on the capture state, which the write's own answer leaves. -/
theorem State.answer_outcomeOf (s : State) (x : UPort) (r : Request) (status : Status) (v : Word) :
    (s.answer x r status).outcomeOf v = s.outcomeOf v := by
  simp only [State.outcomeOf, State.commandOutcome, State.answer_down, State.answer_capture]

theorem State.writeCommand_of_known {s : State} {v : Word} {c : Command} {outcome : CommandOutcome}
    (hcode : Command.ofCode (commandCode v).toNat = some c) (houtcome : s.outcomeOf v = outcome) :
    s.writeCommand v = (s.recorded v outcome).runCommand c (commandPort v) := by
  rw [State.writeCommand, hcode, ← houtcome]
  rfl

theorem State.writeCommand_of_unknown {s : State} {v : Word} (hcode : Command.ofCode (commandCode v).toNat = none) :
    s.writeCommand v = s.recorded v .unknown := by
  rw [State.writeCommand, State.recordCommand, State.outcomeOf, hcode]
  rfl

section
variable {s : State} {x : UPort} {r : Request} {v : Word} {c : Command} {row : Instr} {outcome : CommandOutcome}
  {effect : State → State}

/-- A command that is accepted, but SOFT_RESET, is answered OK and then carried out (R185). -/
theorem State.PresentsWrite.exec_command_accepted (h : s.PresentsWrite x r .command v)
    (hcode : Command.ofCode (commandCode v).toNat = some c) (hreset : c ≠ .softReset)
    (hrow : rowOfWrite x .command v = some row) (houtcome : s.outcomeOf v = outcome) (hok : outcome.accepted = true)
    (heffect : ((s.answer x r .ok).recorded v outcome).runCommand c (commandPort v) = effect (s.answer x r .ok)) :
    exec row s = .next (s.accepted x r effect) := by
  have hother : ¬ (Reg.command = .command ∧ Command.ofCode (commandCode v).toNat = some .softReset) := fun hboth =>
    hreset (Option.some.inj (hcode.symm.trans hboth.2))
  have haccepts : s.accepts .command v = true := (congrArg CommandOutcome.accepted houtcome).trans hok
  have hwrite : (s.answer x r .ok).access .command v = effect (s.answer x r .ok) :=
    (State.writeCommand_of_known hcode ((s.answer_outcomeOf x r .ok v).trans houtcome)).trans heffect
  rw [h.exec_command hrow, State.performWrite, if_neg hother, if_pos haccepts, hwrite, State.accepted]

/-- A command that is refused is answered DENIED, and leaves its record alone (R143, R184, R185). -/
theorem State.PresentsWrite.exec_command_refused (h : s.PresentsWrite x r .command v)
    (hreset : Command.ofCode (commandCode v).toNat ≠ some .softReset) (hrow : rowOfWrite x .command v = some row)
    (hrefused : (s.outcomeOf v).accepted = false)
    (heffect : (s.answer x r .denied).writeCommand v = effect (s.answer x r .denied)) :
    exec row s = .next (s.refused x r .denied effect) := by
  have hother : ¬ (Reg.command = .command ∧ Command.ofCode (commandCode v).toNat = some .softReset) := fun hboth =>
    hreset hboth.2
  have hrefuses : ¬ s.accepts .command v = true := Bool.not_eq_true _ ▸ hrefused
  have hwrite : (s.answer x r .denied).access .command v = effect (s.answer x r .denied) := heffect
  rw [h.exec_command hrow, State.performWrite, if_neg hother, if_neg hrefuses, hwrite]
  rfl

end

/-! ### FENCE, UNFENCE and RETRAIN (R140 to R143) -/

section
variable {s : State} {x : UPort} {r : Request} {v : Word} {n : DPort}

theorem rowOfWrite_fence (hcode : Command.ofCode (commandCode v).toNat = some .fence) :
    rowOfWrite x .command v = some (.fenceCommand x (commandPort v)) := by
  rw [rowOfWrite, show Command.ofCode (v.extractLsb' 0 8).toNat = _ from hcode]
  rfl

theorem rowOfWrite_unfence (hcode : Command.ofCode (commandCode v).toNat = some .unfence) :
    rowOfWrite x .command v = some (.unfence x (commandPort v)) := by
  rw [rowOfWrite, show Command.ofCode (v.extractLsb' 0 8).toNat = _ from hcode]
  rfl

theorem rowOfWrite_retrain (hcode : Command.ofCode (commandCode v).toNat = some .retrain) :
    rowOfWrite x .command v = some (.retrain x (commandPort v)) := by
  rw [rowOfWrite, show Command.ofCode (v.extractLsb' 0 8).toNat = _ from hcode]
  rfl

theorem rowOfWrite_unknown (hcode : Command.ofCode (commandCode v).toNat = none) :
    rowOfWrite x .command v = some (.unknownCommand x (commandCode v)) := by
  rw [rowOfWrite, show Command.ofCode (v.extractLsb' 0 8).toNat = _ from hcode]
  rfl

/-- FENCE of a port (R140). -/
theorem State.PresentsWrite.exec_fenceCommand (h : s.PresentsWrite x r .command v)
    (hcode : Command.ofCode (commandCode v).toNat = some .fence) (hport : DPort.ofCode (commandPort v).toNat = some n) :
    exec (.fenceCommand x (commandPort v)) s = .next
      (s.accepted x r fun t =>
        if (s.down.get n).fenced then t.recorded v .unchanged
        else ((t.recorded v .done).fence n .management).allocate) := by
  have houtcome : s.outcomeOf v = if (s.down.get n).fenced then .unchanged else .done := by
    simp only [State.outcomeOf, hcode, State.commandOutcome, hport]
  refine h.exec_command_accepted hcode nofun (rowOfWrite_fence hcode) houtcome (by split <;> rfl) ?_
  simp only [State.runCommand, hport, State.fenceEvent, State.recorded_down, State.answer_down]
  split <;> rfl

/-- RETRAIN of a port (R131, R142). -/
theorem State.PresentsWrite.exec_retrain (h : s.PresentsWrite x r .command v)
    (hcode : Command.ofCode (commandCode v).toNat = some .retrain) (hport : DPort.ofCode (commandPort v).toNat = some n) :
    exec (.retrain x (commandPort v)) s = .next
      (s.accepted x r fun t =>
        if (s.down.get n).link = .up then (((t.recorded v .done).linkDown n).emit (.reestablish n)).allocate
        else t.recorded v .unchanged) := by
  have houtcome : s.outcomeOf v = if (s.down.get n).link = .up then .done else .unchanged := by
    simp only [State.outcomeOf, hcode, State.commandOutcome, hport]
  refine h.exec_command_accepted hcode nofun (rowOfWrite_retrain hcode) houtcome (by split <;> rfl) ?_
  simp only [State.runCommand, hport, State.retrain, State.forceDown, State.recorded_down, State.answer_down]
  split <;> rfl

/-- UNFENCE of a port without a fence changes nothing, whether RETRAINED is set or not (R141). -/
theorem State.unfence_of_clear (h : (s.down.get n).fenced = false) : s.unfence n = s := by
  have hsame : s.down.modify n (fun d => { d with fenced := false }) = s.down := PerDown.ext_get fun m => by
    rw [PerDown.get_modify]
    split
    · next hm => rw [hm, ← h]
    · rfl
  unfold State.unfence
  split
  · rw [State.onDown, hsame]
  · rfl

theorem State.outcomeOf_unfence (hcode : Command.ofCode (commandCode v).toNat = some .unfence)
    (hport : DPort.ofCode (commandPort v).toNat = some n) :
    s.outcomeOf v =
      if !(s.down.get n).fenced then .unchanged else if (s.down.get n).retrained then .done else .notRetrained := by
  simp only [State.outcomeOf, hcode, State.commandOutcome, hport]

theorem State.runCommand_unfence {port : BitVec 8} (hport : DPort.ofCode port.toNat = some n) :
    s.runCommand .unfence port = s.unfence n := by
  simp only [State.runCommand, hport]

theorem State.PresentsWrite.exec_unfence_of_clear (h : s.PresentsWrite x r .command v)
    (hcode : Command.ofCode (commandCode v).toNat = some .unfence) (hport : DPort.ofCode (commandPort v).toNat = some n)
    (hclear : (s.down.get n).fenced = false) :
    exec (.unfence x (commandPort v)) s = .next (s.accepted x r fun t => t.recorded v .unchanged) := by
  have houtcome : s.outcomeOf v = .unchanged := by
    rw [State.outcomeOf_unfence hcode hport, hclear]
    rfl
  refine h.exec_command_accepted hcode nofun (rowOfWrite_unfence hcode) houtcome rfl ?_
  rw [State.runCommand_unfence hport, State.unfence_of_clear]
  rwa [State.recorded_down, State.answer_down]

theorem State.PresentsWrite.exec_unfence_of_retrained (h : s.PresentsWrite x r .command v)
    (hcode : Command.ofCode (commandCode v).toNat = some .unfence) (hport : DPort.ofCode (commandPort v).toNat = some n)
    (hset : (s.down.get n).fenced = true) (hback : (s.down.get n).retrained = true) :
    exec (.unfence x (commandPort v)) s = .next
      (s.accepted x r fun t => (t.recorded v .done).onDown n fun d => { d with fenced := false }) := by
  have houtcome : s.outcomeOf v = .done := by
    rw [State.outcomeOf_unfence hcode hport, hset, hback]
    rfl
  refine h.exec_command_accepted hcode nofun (rowOfWrite_unfence hcode) houtcome rfl ?_
  rw [State.runCommand_unfence hport, State.unfence, State.recorded_down, State.answer_down, if_pos hback]

theorem State.PresentsWrite.exec_unfence_of_not_retrained (h : s.PresentsWrite x r .command v)
    (hcode : Command.ofCode (commandCode v).toNat = some .unfence) (hport : DPort.ofCode (commandPort v).toNat = some n)
    (hset : (s.down.get n).fenced = true) (hnot : (s.down.get n).retrained = false) :
    exec (.unfence x (commandPort v)) s = .next (s.refused x r .denied fun t => t.recorded v .notRetrained) := by
  have houtcome : s.outcomeOf v = .notRetrained := by
    rw [State.outcomeOf_unfence hcode hport, hset, hnot]
    rfl
  refine h.exec_command_refused (hcode ▸ nofun) (rowOfWrite_unfence hcode) (congrArg CommandOutcome.accepted houtcome) ?_
  rw [State.writeCommand_of_known hcode ((s.answer_outcomeOf x r .denied v).trans houtcome), State.runCommand_unfence hport,
    State.unfence, State.recorded_down, State.answer_down, hnot, if_neg Bool.false_ne_true]

/-! ### Ports and codes that name nothing (R143, R184, R192) -/

theorem State.PresentsWrite.exec_badPort (h : s.PresentsWrite x r .command v) {c : Command} {row : Instr}
    (hc : c = .fence ∨ c = .unfence ∨ c = .retrain) (hcode : Command.ofCode (commandCode v).toNat = some c)
    (hport : DPort.ofCode (commandPort v).toNat = none) (hrow : rowOfWrite x .command v = some row) :
    exec row s = .next (s.refused x r .denied fun t => t.recorded v .badPort) := by
  have houtcome (t : State) : t.outcomeOf v = .badPort := by
    rcases hc with rfl | rfl | rfl <;> simp only [State.outcomeOf, hcode, State.commandOutcome, hport]
  have hidle (t : State) : t.runCommand c (commandPort v) = t := by
    rcases hc with rfl | rfl | rfl <;> simp only [State.runCommand, hport]
  have hreset : Command.ofCode (commandCode v).toNat ≠ some .softReset := by
    rcases hc with rfl | rfl | rfl <;> exact hcode ▸ nofun
  refine h.exec_command_refused hreset hrow (congrArg CommandOutcome.accepted (houtcome s)) ?_
  rw [State.writeCommand_of_known hcode (houtcome _), hidle]

theorem State.PresentsWrite.exec_unknownCommand (h : s.PresentsWrite x r .command v)
    (hcode : Command.ofCode (commandCode v).toNat = none) :
    exec (.unknownCommand x (commandCode v)) s = .next (s.refused x r .denied fun t => t.recorded v .unknown) := by
  have houtcome : s.outcomeOf v = .unknown := by
    rw [State.outcomeOf, hcode]
    rfl
  exact h.exec_command_refused (hcode ▸ nofun) (rowOfWrite_unknown hcode) (congrArg CommandOutcome.accepted houtcome)
    (State.writeCommand_of_unknown hcode)

end

/-- Settles O44: each command on a port, then the ports and the codes that name nothing. -/
theorem portCommandsActOrAreDenied : Obligations.PortCommandsActOrAreDenied := by
  have known {v : Word} {k : Nat} (hk : (v.extractLsb' 0 8).toNat = k) :
      Command.ofCode (commandCode v).toNat = Command.ofCode k := congrArg Command.ofCode hk
  refine ⟨fun x v r n s h hn => ?_, fun x v r s h => ⟨fun hbad => ?_, fun hunknown => ?_⟩⟩
  · have hport : DPort.ofCode (commandPort v).toNat = some n := (congrArg DPort.ofCode hn).trans n.ofCode_code
    exact ⟨fun hcode => h.exec_fenceCommand (known hcode) hport,
      fun hcode => ⟨h.exec_unfence_of_clear (known hcode) hport, h.exec_unfence_of_retrained (known hcode) hport,
        h.exec_unfence_of_not_retrained (known hcode) hport⟩,
      fun hcode => h.exec_retrain (known hcode) hport⟩
  · have hport : DPort.ofCode (commandPort v).toNat = none := DPort.ofCode_eq_none hbad
    exact ⟨fun hcode => h.exec_badPort (.inl rfl) (known hcode) hport (rowOfWrite_fence (known hcode)),
      fun hcode => h.exec_badPort (.inr (.inl rfl)) (known hcode) hport (rowOfWrite_unfence (known hcode)),
      fun hcode => h.exec_badPort (.inr (.inr rfl)) (known hcode) hport (rowOfWrite_retrain (known hcode))⟩
  · exact h.exec_unknownCommand (Command.ofCode_eq_none hunknown)

end Machine
end Sys2Proof
end

section
/-! PROOFS. The settings and the commands of the capture unit (R147, R161 to R164, R180, R185, R186, R192). -/

namespace Sys2Proof.Machine

-- One after another: checked side by side, the theorems exceed the memory limit of check.sh.
set_option Elab.async false

/-! ### The capture unit beside the command record (R185) -/

theorem State.recorded_capture (s : State) (v : Word) (outcome : CommandOutcome) :
    (s.recorded v outcome).capture = s.capture := rfl

theorem State.onCapture_congr (s : State) {f g : Capture → Capture} (h : f s.capture = g s.capture) :
    s.onCapture f = s.onCapture g := by
  rw [State.onCapture, State.onCapture, h]

theorem State.onCapture_eq_self {s : State} {f : Capture → Capture} (h : f s.capture = s.capture) : s.onCapture f = s := by
  rw [State.onCapture, h]

/-! ### Settings given by a code (R192) -/

theorem Combine.ofCode_code (k : Combine) : Combine.ofCode k.code = some k := by cases k <;> rfl

theorem Trigger.ofCode_code (k : Trigger) : Trigger.ofCode k.code = some k := by cases k <;> rfl

theorem OverflowMode.ofCode_code (k : OverflowMode) : OverflowMode.ofCode k.code = some k := by cases k <;> rfl

theorem Combine.ofCode_eq_none {k : Nat} (h : 3 < k) : Combine.ofCode k = none := by
  obtain ⟨j, rfl⟩ := Nat.exists_eq_add_of_le' h
  rfl

theorem Trigger.ofCode_eq_none {k : Nat} (h : 3 < k) : Trigger.ofCode k = Option.none := by
  obtain ⟨j, rfl⟩ := Nat.exists_eq_add_of_le' h
  rfl

theorem CapMode.ofCode_eq_none {k : Nat} (h : 2 < k) : CapMode.ofCode k = none := by
  obtain ⟨j, rfl⟩ := Nat.exists_eq_add_of_le' h
  rfl

theorem OverflowMode.ofCode_eq_none {k : Nat} (h : 1 < k) : OverflowMode.ofCode k = none := by
  obtain ⟨j, rfl⟩ := Nat.exists_eq_add_of_le' h
  rfl

/-! ### The match units (R147, R163) -/

theorem Capture.writeUnit_eq_onUnit (c : Capture) (u : MatchName) (r : MatchReg) (v : Word) :
    c.writeUnit u r v = c.onUnit u fun m => m.write r v := by
  cases u <;> rfl

/-- A register of a match unit takes every value. -/
theorem State.settingTaken_matchUnit {u : MatchName} {r : MatchReg} {v : Word} {f : MatchUnit → MatchUnit}
    (hwrite : ∀ m : MatchUnit, m.write r v = f m) (s : State) :
    s.SettingTaken (.matchUnit u r) v True fun t => t.onCapture fun c => c.onUnit u f :=
  s.settingTaken_of_store rfl fun t => by simp only [State.store, Capture.writeUnit_eq_onUnit, hwrite]

/-- Settles O47: codes by what they name, numbers by their range, and the words of a match unit field by field. -/
theorem captureSettingsAreCheckedAndStored : Obligations.CaptureSettingsAreCheckedAndStored := by
  refine fun v s => ⟨fun k hk => ?_, fun hbad => ?_, fun k hk => ?_, fun hbad => ?_, fun k hk => ⟨?_, ?_⟩,
    fun hbad => ⟨?_, ?_⟩, fun k hk => ?_, fun hbad => ?_, ?_, ?_, fun u => ⟨?_, ?_, ?_, ?_, ?_, ?_⟩⟩
  · exact s.settingTaken_of_store rfl fun t => by rw [State.store, enumCode_eq, hk, k.ofCode_code, Option.map_some]
  · exact s.settingRefused_of_store rfl fun t => by rw [State.store, enumCode_eq, Combine.ofCode_eq_none hbad, Option.map_none]
  · exact s.settingTaken_of_store rfl fun t => by rw [State.store, enumCode_eq, hk, k.ofCode_code, Option.map_some]
  · exact s.settingRefused_of_store rfl fun t => by rw [State.store, enumCode_eq, Trigger.ofCode_eq_none hbad, Option.map_none]
  · exact s.settingTaken_of_store rfl fun t => by rw [State.store, enumCode_eq, hk, k.ofCode_code, Option.map_some]
  · exact s.settingTaken_of_store rfl fun t => by rw [State.store, enumCode_eq, hk, k.ofCode_code, Option.map_some]
  · exact s.settingRefused_of_store rfl fun t => by rw [State.store, enumCode_eq, CapMode.ofCode_eq_none hbad, Option.map_none]
  · exact s.settingRefused_of_store rfl fun t => by rw [State.store, enumCode_eq, CapMode.ofCode_eq_none hbad, Option.map_none]
  · exact s.settingTaken_of_store rfl fun t => by rw [State.store, enumCode_eq, hk, k.ofCode_code, Option.map_some]
  · exact s.settingRefused_of_store rfl fun t => by
      rw [State.store, enumCode_eq, OverflowMode.ofCode_eq_none hbad, Option.map_none]
  · exact State.settingTaken_of_range rfl fun t _ => map_inRange_eq (by omega) _
  · exact State.settingTaken_of_range rfl fun t _ => map_inRange_eq Iff.rfl _
  · exact s.settingTaken_matchUnit fun _ => rfl
  · exact s.settingTaken_matchUnit fun _ => rfl
  · exact s.settingTaken_matchUnit fun m => by rw [MatchUnit.write, withLo_eq_ofNat]
  · exact s.settingTaken_matchUnit fun m => by rw [MatchUnit.write, withHi_eq_ofNat]
  · exact s.settingTaken_matchUnit fun m => by rw [MatchUnit.write, withLo_eq_ofNat]
  · exact s.settingTaken_matchUnit fun m => by rw [MatchUnit.write, withHi_eq_ofNat]

/-! ### CAPTURE_RELEASE (R161) -/

/-- Settles O43: the write is accepted whatever its value, and the register reads as zero. -/
theorem releaseRemovesTheOldestRecord : Obligations.ReleaseRemovesTheOldestRecord := by
  refine fun x v r s h => ⟨?_, rfl⟩
  rw [h.exec_row rfl]
  refine congrArg _ (State.performWrite_accepted (by nofun) rfl ?_)
  simp only [State.access, State.store, Option.getD_some, List.drop_one]

/-! ### CLEAR_COUNTERS (R186) -/

theorem State.clearCounters_window (s : State) (i : Fin 16) :
    s.clearCounters.window i = { s.window i with hits := 0 } := by
  simp only [State.clearCounters, State.window, Vector.getElem_map, WindowEntry.clearHits]

section
variable {s : State} {x : UPort} {r : Request} {v : Word}

theorem State.PresentsWrite.exec_clearCounters (h : s.PresentsWrite x r .command v)
    (hcode : (v.extractLsb' 0 8).toNat = 5) :
    exec (.clearCounters x) s = .next (s.accepted x r fun t => (t.recorded v .done).clearCounters) := by
  have hcommand : Command.ofCode (commandCode v).toNat = some .clearCounters := congrArg Command.ofCode hcode
  refine h.exec_command_accepted (outcome := .done) hcommand nofun (by rw [rowOfWrite, hcode]; rfl) ?_ rfl rfl
  rw [State.outcomeOf, hcommand]
  rfl

/-! ### CAPTURE_ARM, CAPTURE_STOP and CAPTURE_CLEAR (R162, R164, R185) -/

/-- Only OFF and FROZEN become ARMED; in the other states CAPTURE_ARM finds nothing to change. -/
theorem State.PresentsWrite.exec_captureArm (h : s.PresentsWrite x r .command v)
    (hcode : (v.extractLsb' 0 8).toNat = 6) :
    exec (.captureArm x) s = .next
      (s.accepted x r fun t =>
        match s.capture.state with
        | .off => (t.recorded v .done).onCapture fun c => { c with state := .armed }
        | .frozen => (t.recorded v .done).onCapture fun c => { c with state := .armed }
        | .armed => t.recorded v .unchanged
        | .triggered => t.recorded v .unchanged) := by
  have hcommand : Command.ofCode (commandCode v).toNat = some .captureArm := congrArg Command.ofCode hcode
  cases hstate : s.capture.state with
  | off | frozen =>
    refine h.exec_command_accepted (outcome := .done) hcommand nofun (by rw [rowOfWrite, hcode]; rfl) ?_ rfl ?_
    · simp only [State.outcomeOf, hcommand, State.commandOutcome, hstate, reduceCtorEq, or_self, if_false]
    · refine State.onCapture_congr _ ?_
      rw [State.recorded_capture, State.answer_capture, Capture.arm, hstate]
  | armed | triggered =>
    refine h.exec_command_accepted (outcome := .unchanged) hcommand nofun (by rw [rowOfWrite, hcode]; rfl) ?_ rfl ?_
    · simp only [State.outcomeOf, hcommand, State.commandOutcome, hstate, true_or, or_true, if_true]
    · refine State.onCapture_eq_self ?_
      rw [State.recorded_capture, State.answer_capture, Capture.arm, hstate]

/-- In OFF, CAPTURE_STOP finds nothing to change. -/
theorem State.PresentsWrite.exec_captureStop (h : s.PresentsWrite x r .command v)
    (hcode : (v.extractLsb' 0 8).toNat = 7) :
    exec (.captureStop x) s = .next
      (s.accepted x r fun t =>
        if s.capture.state = .off then t.recorded v .unchanged
        else (t.recorded v .done).onCapture fun c => { c with state := .off }) := by
  have hcommand : Command.ofCode (commandCode v).toNat = some .captureStop := congrArg Command.ofCode hcode
  have houtcome : s.outcomeOf v = if s.capture.state = .off then .unchanged else .done := by
    rw [State.outcomeOf, hcommand]
    rfl
  refine h.exec_command_accepted hcommand nofun (by rw [rowOfWrite, hcode]; rfl) houtcome (by split <;> rfl) ?_
  by_cases hoff : s.capture.state = .off
  · rw [if_pos hoff, if_pos hoff]
    refine State.onCapture_eq_self ?_
    rw [State.recorded_capture, State.answer_capture, Capture.stop, ← hoff]
  · rw [if_neg hoff, if_neg hoff]
    rfl

theorem State.PresentsWrite.exec_captureClear (h : s.PresentsWrite x r .command v)
    (hcode : (v.extractLsb' 0 8).toNat = 8) :
    exec (.captureClear x) s = .next
      (s.accepted x r fun t => (t.recorded v .done).onCapture fun c =>
        { c with buffer := [], nextRseq := 0, dropped := 0, overwritten := 0 }) := by
  have hcommand : Command.ofCode (commandCode v).toNat = some .captureClear := congrArg Command.ofCode hcode
  refine h.exec_command_accepted (outcome := .done) hcommand nofun (by rw [rowOfWrite, hcode]; rfl) ?_ rfl rfl
  rw [State.outcomeOf, hcommand]
  rfl

end

/-- Settles O45: what CLEAR_COUNTERS clears and leaves, then the three capture commands. -/
theorem clearCountersAndCaptureCommands : Obligations.ClearCountersAndCaptureCommands := by
  refine ⟨fun x v r s h hcode => ⟨_, h.exec_clearCounters hcode, fun t => ?_⟩, fun x v r s h =>
    ⟨h.exec_captureArm, h.exec_captureStop, h.exec_captureClear⟩⟩
  exact ⟨fun y => PerUp.get_map _ y _, fun n => PerDown.get_map _ n _, fun i => State.clearCounters_window _ i,
    rfl, rfl, rfl, rfl, rfl, rfl, rfl, rfl, rfl, rfl, State.clearCounters_settings _, rfl, rfl, rfl, rfl⟩

end Sys2Proof.Machine
end

section
/-! PROOFS. The handings of the capture unit: the match units and the record of a request (R147 to R149, R152, R155), the offer of
a record (R157 to R159), and what a handing does in each capture state (R151, R153, R154). -/

namespace Sys2Proof

-- One after another: checked side by side, the theorems exceed the memory limit of check.sh.
set_option Elab.async false

/-- Two words agree under a mask where they agree in every bit that the mask selects. -/
theorem and_eq_and_iff_getLsbD {w : Nat} {a b mask : BitVec w} :
    a &&& mask = b &&& mask ↔ ∀ k : Nat, mask.getLsbD k = true → a.getLsbD k = b.getLsbD k := by
  refine ⟨fun h k hk => ?_, fun h => BitVec.eq_of_getLsbD_eq fun k _ => ?_⟩
  · simpa [hk] using congrArg (BitVec.getLsbD · k) h
  · cases hk : mask.getLsbD k
    · simp [hk]
    · simp [hk, h k hk]

namespace Machine

/-! ### Request handings (R147, R148, R152) -/

theorem MatchUnit.matched_iff {m : MatchUnit} {h : Handing} : m.matched h = true ↔ m.Matches h := by
  simp only [MatchUnit.matched, MatchUnit.Matches, Bool.and_eq_true, Bool.or_eq_true, beq_iff_eq, and_eq_and_iff_getLsbD,
    and_assoc]

theorem WindowCode.code_toNat (code : WindowCode) :
    code.code.toNat =
      match code with
      | .window i _ => i.val
      | .mgmt => 16
      | .noHit => 17
      | .undecoded => 18 := by
  cases code with
  | window i mode => exact Nat.mod_eq_of_lt (by omega)
  | _ => rfl

theorem Capture.candidate_iff {c : Capture} {h : Handing} :
    c.candidate h = true ↔ c.modeFor h.code = .all ∨ c.modeFor h.code = .filtered ∧ c.combined h = true := by
  cases hmode : c.modeFor h.code <;> simp [Capture.candidate, hmode]

theorem Capture.combined_iff {c : Capture} {h : Handing} :
    c.combined h = true ↔
      match c.combine with
      | .aOnly => c.unitA.Matches h
      | .either => c.unitA.Matches h ∨ c.unitB.Matches h
      | .both => c.unitA.Matches h ∧ c.unitB.Matches h
      | .aNotB => c.unitA.Matches h ∧ ¬ c.unitB.Matches h := by
  cases hcombine : c.combine <;>
    simp only [Capture.combined, hcombine, Bool.or_eq_true, Bool.and_eq_true, Bool.not_eq_true', ← Bool.not_eq_true,
      MatchUnit.matched_iff]

theorem Disposition.isError_iff {d : Disposition} :
    d.isError = true ↔
      d = .unmapped ∨ d = .denied ∨ d = .unavailable ∨ d = .malformed ∨ d = .rejected ∨ d = .dropped := by
  cases d <;> decide

theorem Capture.firesOnRequest_iff {c : Capture} {h : Handing} :
    c.firesOnRequest h = true ↔
      match c.trigger with
      | .none => False
      | .matchA => c.unitA.Matches h
      | .matchB => c.unitB.Matches h
      | .anyError =>
        h.disposition = .unmapped ∨ h.disposition = .denied ∨ h.disposition = .unavailable ∨ h.disposition = .malformed
          ∨ h.disposition = .rejected ∨ h.disposition = .dropped := by
  cases htrigger : c.trigger <;>
    simp only [Capture.firesOnRequest, htrigger, Bool.false_eq_true, MatchUnit.matched_iff, Disposition.isError_iff]

/-- Settles O17: the record is the handing's body; candidacy and trigger turn on what the match units match. -/
theorem requestHandingsAreMatchedAndRecorded : Obligations.RequestHandingsAreMatchedAndRecorded := by
  refine fun h s => ⟨rfl, h.code.code_toNat, fun mode hmode => ?_, Capture.firesOnRequest_iff⟩
  have hmodeFor : s.capture.modeFor h.code = mode := by
    rw [hmode]
    cases h.code <;> rfl
  rw [Capture.candidate_iff, hmodeFor]
  exact or_congr_right (and_congr_right fun _ => Capture.combined_iff)

/-! ### The offer of a record (R157 to R159) -/

theorem Capture.withRecord_of_room {c : Capture} (hroom : c.buffer.length < 256) (now : Word) (flag : Bool) (b : RecordBody) :
    c.withRecord now flag b = { c with buffer := c.buffer ++ [c.record now flag b], nextRseq := c.nextRseq + 1 } := by
  simp only [Capture.withRecord, if_pos hroom, Capture.record]

theorem Capture.withRecord_of_full {c : Capture} (hfull : 256 ≤ c.buffer.length) (now : Word) (flag : Bool) (b : RecordBody) :
    c.withRecord now flag b =
      { c with
        buffer := c.buffer.tail ++ [c.record now flag b]
        nextRseq := c.nextRseq + 1
        overwritten := satInc c.overwritten } := by
  simp only [Capture.withRecord, if_neg (Nat.not_lt.mpr hfull), Capture.record]

section
variable {s : State}

theorem State.offer_of_room (hroom : s.capture.buffer.length < 256) (flag : Bool) (b : RecordBody) :
    s.offer flag b =
      if s.capture.buffer.length + 1 = s.capture.threshold then
        (s.onCapture fun c => c.withRecord s.time flag b).raise .captureThreshold
      else s.onCapture fun c => c.withRecord s.time flag b := by
  simp only [State.offer, Config.captureCapacity, if_pos hroom, State.onCapture, Capture.withRecord_of_room hroom]

theorem State.offer_of_ring (hfull : 256 ≤ s.capture.buffer.length) (hring : s.capture.mode = .ring) (flag : Bool)
    (b : RecordBody) :
    s.offer flag b = (s.onCapture fun c => c.withRecord s.time flag b).raise .captureOverflow := by
  simp only [State.offer, Config.captureCapacity, if_neg (Nat.not_lt.mpr hfull), hring, State.onCapture,
    Capture.withRecord_of_full hfull]

theorem State.offer_of_stop (hfull : 256 ≤ s.capture.buffer.length) (hstop : s.capture.mode = .stop) (flag : Bool)
    (b : RecordBody) :
    s.offer flag b = (s.onCapture fun c => { c with dropped := satInc c.dropped }).raise .captureOverflow := by
  simp only [State.offer, Config.captureCapacity, if_neg (Nat.not_lt.mpr hfull), hstop]

theorem Capture.accepts_iff {c : Capture} : c.accepts = true ↔ c.buffer.length < 256 ∨ c.mode = .ring := by
  simp only [Capture.accepts, Config.captureCapacity, Bool.or_eq_true, decide_eq_true_eq, beq_iff_eq]

/-- A record is appended where there is room, or over the oldest in RING mode. -/
theorem State.offer_buffer (s : State) (flag : Bool) (b : RecordBody) :
    (s.offer flag b).capture.buffer =
      if s.capture.buffer.length < 256 ∨ s.capture.mode = .ring then (s.capture.withRecord s.time flag b).buffer
      else s.capture.buffer := by
  by_cases hroom : s.capture.buffer.length < 256
  · rw [if_pos (Or.inl hroom), s.offer_of_room hroom]
    split <;> rfl
  · have hfull : 256 ≤ s.capture.buffer.length := Nat.not_lt.mp hroom
    cases hmode : s.capture.mode with
    | ring => rw [s.offer_of_ring hfull hmode, if_pos (.inr rfl)]; rfl
    | stop => rw [s.offer_of_stop hfull hmode, if_neg (by simp [hroom])]; rfl

/-! ### The end of a capture (R153, R154) -/

theorem State.freezeAtZero_capture (s : State) :
    s.freezeAtZero.capture =
      { s.capture with state := if s.capture.postRemain = 0 then .frozen else s.capture.state } := by
  unfold State.freezeAtZero
  split <;> rfl

theorem State.freezeAtZero_raises (hzero : s.capture.postRemain = 0) :
    s.freezeAtZero.notice.cause.getLsbD Cause.captureFrozen.position = true := by
  rw [State.freezeAtZero, if_pos hzero]
  exact State.raise_sets _ _

/-! ### A handing in each capture state (R151, R153, R154) -/

/-- The capture unit once TRIGGER has fired, before the record of the handing that fired it. -/
def State.triggered (s : State) : State :=
  (s.onCapture fun c => { c with state := .triggered, postRemain := c.postCount }).raise .captureTriggered

/-- The same with that record, which a candidate alone has. -/
def State.triggeredBy (s : State) (candidate : Bool) (b : RecordBody) : State :=
  if candidate then s.triggered.offer true b else s.triggered

theorem State.triggerCapture_eq (s : State) (candidate : Bool) (b : RecordBody) :
    s.triggerCapture candidate b = (s.triggeredBy candidate b).freezeAtZero := rfl

theorem State.triggeredBy_capture (s : State) (candidate : Bool) (b : RecordBody) :
    (s.triggeredBy candidate b).capture.state = .triggered
      ∧ (s.triggeredBy candidate b).capture.postRemain = s.capture.postCount
      ∧ (s.triggeredBy candidate b).capture.buffer =
          if candidate then
            if s.capture.buffer.length < 256 ∨ s.capture.mode = .ring then (s.capture.withRecord s.time true b).buffer
            else s.capture.buffer
          else s.capture.buffer := by
  cases candidate with
  | false => exact ⟨rfl, rfl, rfl⟩
  | true =>
    obtain ⟨hstate, hremain⟩ := s.triggered.offer_trigger true b
    exact ⟨hstate, hremain, s.triggered.offer_buffer true b⟩

/-- The record leaves the cause of the trigger standing. -/
theorem State.triggerCapture_raises (s : State) (candidate : Bool) (b : RecordBody) :
    (s.triggerCapture candidate b).notice.cause.getLsbD Cause.captureTriggered.position = true := by
  have hfired : s.triggered.notice.cause.getLsbD Cause.captureTriggered.position = true := State.raise_sets _ _
  have hrecorded : s.triggered.Records (s.triggeredBy candidate b) := by
    unfold State.triggeredBy
    split
    · exact (State.Records.refl _).offer true b
    · exact .refl _
  exact hrecorded.freezeAtZero.carries.causes _ hfired

theorem State.recordTriggered_of_accepts (haccepts : s.capture.accepts = true) (b : RecordBody) :
    s.recordTriggered b =
      ((s.offer false b).onCapture fun c => { c with postRemain := c.postRemain - 1 }).freezeAtZero := if_pos haccepts

theorem State.recordTriggered_of_not_accepts (hfull : ¬ s.capture.accepts = true) (b : RecordBody) :
    s.recordTriggered b = s.offer false b := if_neg hfull

section
variable {candidate fires : Bool} {b : RecordBody}

theorem State.hand_of_idle (hidle : s.capture.state = .off ∨ s.capture.state = .frozen) :
    s.hand candidate fires b = s := by
  rcases hidle with h | h <;> simp only [State.hand, h]

theorem State.hand_of_armed (harmed : s.capture.state = .armed) :
    s.hand candidate fires b =
      if fires then s.triggerCapture candidate b else if candidate then s.offer false b else s := by
  simp only [State.hand, harmed]

theorem State.hand_of_triggered (htriggered : s.capture.state = .triggered) :
    s.hand candidate fires b = if candidate then s.recordTriggered b else s := by
  simp only [State.hand, htriggered]

end
end

/-- Settles O16: the offer by room and mode, a handing by capture state, and the completion handing as it is defined. -/
theorem handingsFollowTheCaptureState : Obligations.HandingsFollowTheCaptureState := by
  refine ⟨fun flag b s => ⟨fun hroom => s.offer_of_room hroom flag b, fun hfull hring => s.offer_of_ring hfull hring flag b,
      fun hfull hstop => s.offer_of_stop hfull hstop flag b⟩,
    fun candidate fires b s => ⟨State.hand_of_idle, fun harmed hquiet => ?_, fun harmed hfires => ?_,
      fun htriggered hno => ?_, fun htriggered hcandidate => ⟨fun hroom => ?_, fun hfull hstop => ?_⟩⟩,
    fun k status s => rfl⟩
  · rw [State.hand_of_armed harmed, hquiet, if_neg Bool.false_ne_true]
  · obtain ⟨hstate, hremain, hbuffer⟩ := s.triggeredBy_capture candidate b
    rw [State.hand_of_armed harmed, if_pos hfires]
    refine ⟨?_, ?_, ?_, s.triggerCapture_raises candidate b, fun hzero => State.freezeAtZero_raises (hremain.trans hzero)⟩ <;>
      rw [State.triggerCapture_eq, State.freezeAtZero_capture]
    · simp only [hstate, hremain]
    · exact hremain
    · exact hbuffer
  · rw [State.hand_of_triggered htriggered, hno, if_neg Bool.false_ne_true]
  · obtain ⟨hstate, hremain⟩ := s.offer_trigger false b
    rw [State.hand_of_triggered htriggered, if_pos hcandidate, State.recordTriggered_of_accepts (Capture.accepts_iff.mpr hroom)]
    refine ⟨?_, ?_, ?_, fun hzero => State.freezeAtZero_raises ?_⟩
    · rw [State.freezeAtZero_capture, State.onCapture_capture, hremain]
    · simp only [State.freezeAtZero_capture, State.onCapture_capture, hremain, hstate, htriggered]
    · rw [State.freezeAtZero_capture, State.onCapture_capture, State.offer_buffer, if_pos hroom]
    · rw [State.onCapture_capture, hremain, hzero]
  · have hrefused : ¬ s.capture.accepts = true := by
      rw [Capture.accepts_iff, hstop]
      simpa using hfull
    rw [State.hand_of_triggered htriggered, if_pos hcandidate, State.recordTriggered_of_not_accepts hrefused]

end Machine
end Sys2Proof
end

section
/-! PROOFS. Causes, parts and resolved heads (R15, R48, R58, R64, R65, R127, R166), and the writes of the notice unit (R167 to R169,
R172): both rest on the examination of ACTIVE. -/

namespace Sys2Proof.Machine

/-! ### The examination of ACTIVE (R169) -/

theorem NoticeUnit.examine_eq (u : NoticeUnit) :
    u.examine = if u.state = .idle ∧ u.cause &&& u.enable ≠ 0 then { u with state := .queued, repeatMark := false } else u := rfl

/-- A unit that has just become IDLE with the repeat mark clear: the examination settles its state alone. -/
theorem NoticeUnit.examine_of_idle {u : NoticeUnit} (hidle : u.state = .idle) (hmark : u.repeatMark = false) :
    u.examine = { u with state := if u.cause &&& u.enable = 0 then .idle else .queued } := by
  rw [NoticeUnit.examine_eq]
  by_cases hempty : u.cause &&& u.enable = 0
  · rw [if_neg fun h => h.2 hempty, if_pos hempty, ← hidle]
  · rw [if_pos ⟨hidle, hempty⟩, if_neg hempty, ← hmark]

theorem State.raise_eq (s : State) (c : Cause) :
    s.raise c = s.onNotice fun u =>
      if u.state = .idle ∧ (u.cause ||| c.set) &&& u.enable ≠ 0 then
        { u with cause := u.cause ||| c.set, state := .queued, repeatMark := false }
      else { u with cause := u.cause ||| c.set } := rfl

/-! ### Parts and heads (R15, R48, R58, R64, R127) -/

/-- A part is placed behind the others, or discarded as a protocol error of its port (R58, R127). -/
theorem State.placePart_eq (s : State) (x : UPort) (p : Part) :
    s.placePart x p =
      if (s.up.get x).returnQueue.length < 576 then s.onUp x fun u => { u with returnQueue := u.returnQueue ++ [p] }
      else (s.countUp x fun c => { c with protocol := satInc c.protocol }).raise .protocol := by
  by_cases hroom : (s.up.get x).returnQueue.length < 576
  · rw [State.placePart_of_room hroom, if_pos hroom]
  · rw [if_neg hroom]
    exact if_pos (Nat.not_lt.mp hroom)

/-- A local answer without data: one LAST part, but for a PW (R58). -/
theorem State.answer_eq (s : State) (x : UPort) (r : Request) (status : Status) :
    s.answer x r status =
      if r.kind = .pw then s else s.placePart x { tag := r.tag, status := status, last := true, data := [] } := by
  rw [State.answer_eq_placeParts, finalParts]
  split <;> rfl

theorem UpCounters.countHead_eq_resolved (c : UpCounters) (d : Disposition) (kind : ReqKind) :
    c.countHead d kind = c.resolved kind d := by cases d <;> rfl

/-- The head has left its queue, returned its credit, been counted and raised its cause before it is handed over (R48). -/
theorem State.resolveHead_eq (s : State) (x : UPort) (r : Request) (code : WindowCode) (d : Disposition)
    (cause : Option Cause) (forward : Option ForwardInfo) :
    s.resolveHead x r code d cause forward =
      ((s.onUp x fun u =>
        { u with
          ingress := u.ingress.tail
          waiting := none
          pendingCredits := satInc u.pendingCredits
          counters := u.counters.resolved r.kind d }).raiseOpt cause).handRequest
        { port := x, request := r, code := code, disposition := d, forward := forward } := by
  simp only [State.resolveHead, State.popHead, State.countUp, State.onUp_onUp, UpCounters.countHead_eq_resolved]

/-- Settles O15: causes, parts and heads by their equations; the parts of a longer answer by the room left at each. -/
theorem causesPartsAndResolvedHeads : Obligations.CausesPartsAndResolvedHeads := by
  refine ⟨⟨fun c s => s.raise_eq c, fun x s => ⟨s.placePart_eq x, s.answer_eq x⟩, fun x parts s => ⟨?_, ?_, ?_⟩⟩,
    fun x r code d cause forward s => ?_⟩
  · rintro rfl
    rfl
  · rintro p rest rfl
    rfl
  · exact State.placeParts_of_room
  · rw [State.resolveHead_eq]
    cases cause <;> rfl

/-! ### The writes of the notice unit (R167 to R169, R172) -/

/-- A write at ENABLE, CLEAR or NOTICE_ACK is accepted whatever its value, and works on the notice unit alone. -/
theorem State.PresentsWrite.exec_noticeWrite {s : State} {x : UPort} {r : Request} {reg : Reg} {v : Word} {row : Instr}
    {f : NoticeUnit → NoticeUnit} (h : s.PresentsWrite x r reg v) (hreg : reg = .enable ∨ reg = .clear ∨ reg = .noticeAck)
    (hrow : rowOfWrite x reg v = some row) (hstore : ∀ t : State, t.store reg v = some (t.onNotice f)) :
    exec row s = .next (s.accepted x r fun t => t.onNotice f) := by
  have hplain (t : State) :
      reg ≠ .command ∧ t.accepts reg v = (t.store reg v).isSome ∧ t.access reg v = (t.store reg v).getD t := by
    rcases hreg with rfl | rfl | rfl <;> exact ⟨nofun, rfl, rfl⟩
  obtain ⟨hcommand, haccepts, -⟩ := hplain s
  obtain ⟨-, -, haccess⟩ := hplain (s.answer x r .ok)
  rw [h.exec_row hrow]
  refine congrArg _ (State.performWrite_accepted hcommand ?_ ?_)
  · rw [haccepts, hstore, Option.isSome_some]
  · rw [haccess, hstore, Option.getD_some]

/-- The positions that name causes are the low 25 bits of the word written. -/
theorem causeSet_eq (v : Word) : v.extractLsb' 0 25 = v.setWidth 25 := (BitVec.setWidth_eq_extractLsb' (by decide)).symm

theorem State.store_enable (s : State) (v : Word) :
    s.store .enable v = some (s.onNotice fun u =>
      if u.state = .idle ∧ u.cause &&& v.setWidth 25 ≠ 0 then
        { u with enable := v.setWidth 25, state := .queued, repeatMark := false }
      else { u with enable := v.setWidth 25 }) := by
  simp only [State.store, causeSet_eq, NoticeUnit.examine_eq]

theorem State.store_clear (s : State) (v : Word) :
    s.store .clear v = some (s.onNotice fun u => { u with cause := u.cause &&& ~~~ v.setWidth 25 }) := by
  rw [State.store, causeSet_eq]

/-- An acknowledgement ends its notice and looks at ACTIVE at once; a stale one changes nothing (R169, R172). -/
theorem State.store_noticeAck (s : State) (v : Word) :
    s.store .noticeAck v = some (s.onNotice fun u =>
      if v = u.seq ∧ (u.state = .sent ∨ u.state = .queued ∧ u.repeatMark = true) then
        { u with
          state := if u.cause &&& u.enable = 0 then .idle else .queued
          repeatMark := false
          repeatDeadline := none
          seq := u.seq + 1 }
      else u) := by
  simp only [State.store, NoticeUnit.acknowledge, NoticeUnit.examine_of_idle]

/-- Settles O42: each of the three registers takes every value, in every state of the unit. -/
theorem noticeUnitWrites : Obligations.NoticeUnitWrites :=
  ⟨fun _ v _ _ =>
    ⟨fun h => h.exec_noticeWrite (.inl rfl) rfl fun t => t.store_enable v,
      fun h => h.exec_noticeWrite (.inr (.inl rfl)) rfl fun t => t.store_clear v⟩,
    fun _ v _ _ h => h.exec_noticeWrite (.inr (.inr rfl)) rfl fun t => t.store_noticeAck v⟩

end Sys2Proof.Machine
end

section
/-! PROOFS. The power-on values (R190): every piece of state after POWER_ON_RESET, the bridge held by RESET_N, and the
invariants at power-on. -/

namespace Sys2Proof.Machine

/-! ### The power-on values, one lemma for each table of the state -/

@[simp] theorem State.powerOn_up_get (msel : BitVec 4) (x : UPort) : (State.powerOn msel).up.get x = Upstream.powerOn := by
  cases x <;> rfl

@[simp] theorem State.powerOn_down_get (msel : BitVec 4) (n : DPort) :
    (State.powerOn msel).down.get n = Downstream.powerOn := by
  cases n <;> rfl

@[simp] theorem State.powerOn_window (msel : BitVec 4) (i : Fin 16) : (State.powerOn msel).window i = WindowEntry.zero :=
  Vector.getElem_replicate ..

@[simp] theorem State.powerOn_entry (msel : BitVec 4) (k : Fin 128) : (State.powerOn msel).entry k = OttEntry.zero :=
  Vector.getElem_replicate ..

/-- The aperture stands at a multiple of 64 KiB that the strap selects (R42). -/
theorem State.powerOn_mgmtBase_toNat (msel : BitVec 4) :
    (State.powerOn msel).mgmtBase.toNat = 0xFFFFFF000000 + msel.toNat * 0x10000 := by
  revert msel
  decide

/-! ### The resets by RESET_N -/

/-- A reset finds the same power-on values in every state but for the model's own fields, which it leaves (logs 13, 15). -/
theorem State.powered_tables (s : State) (msel : BitVec 4) :
    (∀ x, (s.powered msel).up.get x = Upstream.powerOn) ∧ (∀ n, (s.powered msel).down.get n = Downstream.powerOn)
    ∧ (∀ i, (s.powered msel).window i = WindowEntry.zero) ∧ ∀ k, (s.powered msel).entry k = OttEntry.zero :=
  ⟨State.powerOn_up_get msel, State.powerOn_down_get msel, State.powerOn_window msel, State.powerOn_entry msel⟩

/-- Settles O2: the ports, the windows and the entries by their power-on values, every other field as it is defined. -/
theorem powerOnResetGivesPowerOnValues : Obligations.PowerOnResetGivesPowerOnValues := by
  intro msel s
  obtain ⟨hup, hdown, hwindow, hentry⟩ := s.powered_tables msel
  refine ⟨s.powered msel, rfl, rfl, rfl, rfl, State.powerOn_mgmtBase_toNat msel, rfl, rfl, rfl, hup, hdown, fun i => ?_,
    hentry, rfl, rfl, rfl, rfl, rfl, rfl, rfl, rfl, rfl, rfl, rfl, rfl, rfl, rfl, ?_, rfl, rfl, rfl, rfl⟩
  · rw [hwindow]
    exact ⟨rfl, rfl, rfl, rfl, rfl, rfl, rfl, rfl, rfl, rfl, rfl, rfl, rfl, rfl⟩
  · rintro m (rfl | rfl) <;> rfl

/-- While RESET_N is asserted only a reset by RESET_N has an effect: every other command asks first whether it is (R190). -/
theorem exec_of_held {c : Instr} {s : State} (hheld : s.held = true) (hrelease : ∀ msel, c ≠ .powerOnReset msel)
    (hassert : c ≠ .resetNAsserted) : exec c s = .next s := by
  cases c with
  | powerOnReset msel => exact absurd rfl (hrelease msel)
  | resetNAsserted => exact absurd rfl hassert
  | _ => exact congrArg Host.Outcome.next (if_pos hheld)

/-- Settles O3: the held state is the power-on state at the last strap, and every command but a reset runs only while
RESET_N is released. -/
theorem assertedResetHoldsTheBridge : Obligations.AssertedResetHoldsTheBridge := by
  refine ⟨fun s => ?_, fun c s => exec_of_held⟩
  obtain ⟨hup, hdown, hwindow, hentry⟩ := s.powered_tables s.strap
  refine ⟨{ s.powered s.strap with held := true }, rfl, rfl, rfl, rfl, rfl, fun x => ?_, fun n => ?_, fun k => ?_,
    fun i => ?_, rfl, rfl, rfl, rfl, rfl⟩
  · rw [hup]
    exact ⟨rfl, rfl, rfl, rfl, rfl⟩
  · rw [hdown]
    exact ⟨rfl, rfl, rfl, rfl⟩
  · exact congrArg OttEntry.state (hentry k)
  · exact congrArg (fun e => e.active.valid) (hwindow i)

/-! ### The invariants at power-on -/

theorem State.powerOn_settingsInRange (msel : BitVec 4) : (State.powerOn msel).SettingsInRange := by
  have hport : Downstream.powerOn.SettingsInRange := by
    rw [Downstream.SettingsInRange]
    decide
  have hcapture : Capture.powerOn.SettingsInRange := by
    rw [Capture.SettingsInRange]
    decide
  have hnotice : NoticeUnit.powerOn.SettingsInRange := by
    rw [NoticeUnit.SettingsInRange]
    decide
  refine State.settingsInRange_iff.mpr ⟨?_, fun n => ?_, hcapture, hnotice, (by decide : 0b01#2 ≠ 0),
    strapBase_aligned msel⟩
  · rw [State.powerOn_up_get, State.powerOn_up_get]
    decide
  · rwa [State.powerOn_down_get]

theorem State.powerOn_queuesBounded (msel : BitVec 4) : (State.powerOn msel).QueuesBounded := by
  refine ⟨fun x => ?_, fun n => ?_, Nat.zero_le _⟩
  · rw [State.powerOn_up_get]
    exact ⟨Nat.zero_le _, Nat.zero_le _⟩
  · rw [State.powerOn_down_get]
    exact Nat.zero_le _

theorem State.powerOn_creditsInRange (msel : BitVec 4) : (State.powerOn msel).CreditsInRange := by
  refine ⟨fun x => ?_, fun n => ?_⟩
  · rw [State.powerOn_up_get]
    exact ⟨Nat.zero_le _, fun _ => ⟨rfl, rfl, rfl⟩⟩
  · rw [State.powerOn_down_get]
    exact ⟨Nat.zero_le _, fun _ => rfl⟩

/-- The power-on state holds no deadline, of an entry or of the notice (R96, R177). -/
theorem State.powerOn_deadlinesAhead (msel : BitVec 4) : (State.powerOn msel).DeadlinesAhead := by
  refine State.deadlinesAhead_iff.mpr ⟨fun n => ?_, .of_none (Nat.zero_le _) rfl, fun k => .of_none ?_⟩
  · rw [State.powerOn_down_get]
    decide
  · rw [State.powerOn_entry]
    rfl

/-- Settles O57: nothing is queued, live, armed or active at power-on, and every setting starts in its range. -/
theorem powerOnMeetsTheInvariants : Obligations.PowerOnMeetsTheInvariants := fun msel =>
  ⟨State.windowsChecked_of_zero rfl, State.powerOn_settingsInRange msel, State.powerOn_queuesBounded msel,
    State.powerOn_creditsInRange msel, .of_powerOn (msel := msel) rfl rfl, .of_powerOn (msel := msel) rfl rfl,
    State.tableConsistent_iff.mpr (.of_powerOn (msel := msel) rfl rfl rfl), ⟨fun _ => BitVec.zero_and, nofun, nofun⟩,
    ⟨Capture.Numbered.of_empty rfl, nofun⟩, State.powerOn_deadlinesAhead msel, rfl⟩

end Sys2Proof.Machine
end

section
/-! PROOFS. What the settings, the status words, the counters and the actions read (R178, R183, R185, R194, section 11.5):
each field in its bits. -/

namespace Sys2Proof.Machine

/-! ### The codes as fields (section 11.2) -/

theorem CommandOutcome.code_lt (o : CommandOutcome) : o.code < 2 ^ 3 := by cases o <;> decide
theorem NoticeState.code_lt (st : NoticeState) : st.code < 2 ^ 2 := by cases st <;> decide
theorem Combine.code_lt (c : Combine) : c.code < 2 ^ 2 := by cases c <;> decide
theorem Trigger.code_lt (t : Trigger) : t.code < 2 ^ 2 := by cases t <;> decide
theorem OverflowMode.code_lt (m : OverflowMode) : m.code < 2 ^ 1 := by cases m <;> decide
theorem CaptureState.code_lt (st : CaptureState) : st.code < 2 ^ 2 := by cases st <;> decide
theorem DefaultAction.code_lt (a : DefaultAction) : a.code < 2 ^ 1 := by cases a <;> decide
theorem Turn.code_lt (t : Turn) : t.code < 2 ^ 1 := by cases t <;> decide
theorem FenceReason.code_lt (r : FenceReason) : r.code < 2 ^ 3 := by cases r <;> decide

/-! ### Words of one field -/

/-- A number that fills its word reads as that number. -/
theorem natAt_zero (k : Nat) : natAt 0 k = BitVec.ofNat 32 k := BitVec.shiftLeft_zero _

theorem bitsAt_zero_toNat {n : Nat} (v : BitVec n) (h : n ≤ 32 := by decide) : (bitsAt 0 v).toNat = v.toNat :=
  (HoldsBelow.bits v h).1

theorem natAt_zero_toNat {n k : Nat} (hk : k < 2 ^ n) (h : n ≤ 32 := by decide) : (natAt 0 k).toNat = k :=
  (HoldsBelow.nat n hk h).1

/-! ### Words of several fields -/

theorem State.commandResult_toNat (s : State) :
    (s.readReg .commandResult).toNat =
      s.command.code.toNat + 2 ^ 8 * s.command.port.toNat + 2 ^ 16 * s.command.outcome.code
        + 2 ^ 24 * s.command.count.toNat := by
  have hoperands := (HoldsBelow.bits s.command.code (by decide)).orBits 8 s.command.port (by decide)
  exact ((hoperands.orNat 16 3 s.command.outcome.code_lt (by decide)).orBits 24 s.command.count (by decide)).1

theorem State.noticeStatus_toNat (s : State) :
    (s.readReg .noticeStatus).toNat =
      s.notice.state.code + 2 ^ 4 * s.notice.repeatMark.toNat + 2 ^ 5 * s.notice.repeatDeadline.isSome.toNat := by
  have hstate := HoldsBelow.nat 2 s.notice.state.code_lt (by decide)
  exact ((hstate.orFlag 4 s.notice.repeatMark (by decide)).orFlag 5 s.notice.repeatDeadline.isSome (by decide)).1

/-- POST_REMAIN and the occupancy of a legal capture unit fit their fields (R157, R163). -/
theorem State.captureStatus_toNat {s : State} (hremain : s.capture.postRemain ≤ 255)
    (hbuffer : s.capture.buffer.length ≤ 256) :
    (s.readReg .captureStatus).toNat =
      s.capture.state.code + 2 ^ 8 * s.capture.postRemain + 2 ^ 16 * s.capture.buffer.length := by
  have hstate := HoldsBelow.nat 2 s.capture.state.code_lt (by decide)
  have hcounts := hstate.orNat 8 8 (hremain.trans_lt (by decide)) (by decide)
  exact (hcounts.orNat 16 9 (hbuffer.trans_lt (by decide)) (by decide)).1

theorem State.upStatus_toNat (s : State) (x : UPort) :
    (s.readReg (.up x .status)).toNat = (s.up.get x).link.isUp.toNat + 2 ^ 4 * (s.up.get x).turn.code :=
  ((HoldsBelow.flag (s.up.get x).link.isUp).orNat 4 1 (s.up.get x).turn.code_lt (by decide)).1

theorem State.downStatus_toNat (s : State) (n : DPort) :
    (s.readReg (.down n .status)).toNat =
      (s.down.get n).link.isUp.toNat + 2 * (s.down.get n).fenced.toNat + 2 ^ 4 * (s.down.get n).reason.code
        + 2 ^ 8 * (s.down.get n).retrained.toNat + 2 ^ 9 * (s.down.get n).degraded.toNat
        + 2 ^ 16 * (s.down.get n).badRun.toNat + 2 ^ 24 * (s.down.get n).goodRun.toNat := by
  have hlink := (HoldsBelow.flag (s.down.get n).link.isUp).orFlag 1 (s.down.get n).fenced (by decide)
  have hreason := (hlink.orNat 4 3 (s.down.get n).reason.code_lt (by decide)).orFlag 8 (s.down.get n).retrained (by decide)
  have hruns := (hreason.orFlag 9 (s.down.get n).degraded (by decide)).orBits 16 (s.down.get n).badRun (by decide)
  exact (hruns.orBits 24 (s.down.get n).goodRun (by decide)).1

/-! ### Counts over the table (R94, R104) -/

/-- A count over the 128 entries fits a field of 8 bits. -/
theorem State.countP_ott_lt (s : State) (p : OttEntry → Bool) : s.ott.toList.countP p < 2 ^ 8 :=
  calc s.ott.toList.countP p ≤ s.ott.toList.length := List.countP_le_length
    _ = 128 := Vector.length_toList
    _ < 2 ^ 8 := by decide

theorem State.ottSummary_toNat (s : State) :
    (s.readReg .ottSummary).toNat =
      ((List.finRange 128).filter fun k => (s.entry k).state == .free).length
        + 2 ^ 8 * ((List.finRange 128).filter fun k => (s.entry k).state != .free && (s.entry k).src == .u0).length
        + 2 ^ 16 * ((List.finRange 128).filter fun k => (s.entry k).state != .free && (s.entry k).src == .u1).length
        + 2 ^ 24 * s.lastGrant.code := by
  have hfree := HoldsBelow.nat 8 (s.countP_ott_lt fun e => e.state == .free) (by decide)
  have hused := (hfree.orNat 8 8 (s.countP_ott_lt fun e => e.state != .free && e.src == .u0) (by decide)).orNat 16 8
    (s.countP_ott_lt fun e => e.state != .free && e.src == .u1) (by decide)
  rw [← State.freeEntries_eq_length, ← State.used_eq_length, ← State.used_eq_length]
  exact (hused.orNat 24 1 s.lastGrant.code_lt (by decide)).1

theorem State.orphanCount_toNat (s : State) (n : DPort) :
    (s.readReg (.down n .orphanCount)).toNat =
      ((List.finRange 128).filter fun k => (s.entry k).state == .orphan && (s.entry k).egress == n).length := by
  rw [← State.orphanCount_eq]
  exact natAt_zero_toNat (s.countP_ott_lt _)

/-- The parts owed are those of the table (R125, R126). -/
theorem State.readReg_returnLoad (s : State) (x : UPort) :
    s.readReg (.up x .returnLoad) = BitVec.ofNat 32 ((s.up.get x).returnQueue.length + s.owedTo x) := by
  rw [← State.returnLoad_eq]
  exact natAt_zero _

/-- Settles O21: words of one field by that field, words of several with the fields in ascending bits, and what the table
counts; a register of a whole word is that word. -/
theorem settingsAndStatusReadTheirFields : Obligations.SettingsAndStatusReadTheirFields :=
  ⟨fun s =>
    ⟨rfl, bitsAt_zero_toNat _, rfl, bitsAt_zero_toNat _, addrLo_toNat _, bitsAt_zero_toNat _, rfl, rfl, rfl, fun _ => rfl,
      s.commandResult_toNat, bitsAt_zero_toNat _, bitsAt_zero_toNat _, bitsAt_zero_toNat _, rfl, s.noticeStatus_toNat,
      addrLo_toNat _, addrHi_toNat _, natAt_zero_toNat s.notice.port.code_lt, natAt_zero _, rfl, rfl, rfl,
      s.ottSummary_toNat, natAt_zero_toNat s.capture.combine.code_lt, natAt_zero_toNat s.capture.trigger.code_lt,
      natAt_zero_toNat s.capture.capMgmt.code_lt, natAt_zero_toNat s.capture.capDefault.code_lt, natAt_zero _,
      natAt_zero _, natAt_zero_toNat s.capture.mode.code_lt, State.captureStatus_toNat, bitsAt_zero_toNat _, rfl, rfl⟩,
    fun x s =>
    ⟨s.upStatus_toNat x, natAt_zero_toNat (s.up.get x).defaultAction.code_lt, natAt_zero _, natAt_zero _, natAt_zero _,
      s.readReg_returnLoad x, rfl, natAt_zero _, rfl, rfl, rfl, rfl, rfl, rfl, rfl, rfl, rfl, rfl, rfl, rfl⟩,
    fun n s =>
    ⟨s.downStatus_toNat n, s.orphanCount_toNat n, natAt_zero _, natAt_zero _, natAt_zero _, natAt_zero _, natAt_zero _,
      natAt_zero _, natAt_zero _, natAt_zero_toNat (s.down.get n).admission.code_lt, rfl, rfl, rfl, rfl, rfl, rfl, rfl,
      rfl, rfl, rfl, rfl, rfl⟩⟩

end Sys2Proof.Machine
end

section
/-! PROOFS. The management address map (section 11.5): the offset of each register, and that the map finds the register there
and nowhere else (R178, R194). -/

namespace Sys2Proof

/-! ### Blocks -/

/-- Where a block lists the register r; 0 where it does not. -/
def offsetIn {α : Type} [BEq α] (block : List (Nat × α)) (r : α) : Nat :=
  ((block.find? fun p => p.2 == r).map Prod.fst).getD 0

theorem mem_of_lookup_eq_some {α : Type} {block : List (Nat × α)} {a : Nat} {r : α} (h : block.lookup a = some r) :
    (a, r) ∈ block := by
  obtain ⟨before, after, rfl, -⟩ := List.lookup_eq_some_iff.mp h
  exact List.mem_append_right _ List.mem_cons_self

/-- A block finds each of its registers at the offset that lists it, a multiple of 4 within the block. -/
theorem upBlock_lookup (r : UpReg) :
    upBlock.lookup (offsetIn upBlock r) = some r ∧ offsetIn upBlock r % 4 = 0 ∧ offsetIn upBlock r < 0x80 := by
  cases r <;> decide

theorem downBlock_lookup (r : DownReg) :
    downBlock.lookup (offsetIn downBlock r) = some r ∧ offsetIn downBlock r % 4 = 0 ∧ offsetIn downBlock r < 0x80 := by
  cases r <;> decide

theorem matchBlock_lookup (r : MatchReg) :
    matchBlock.lookup (offsetIn matchBlock r) = some r
      ∧ offsetIn matchBlock r % 4 = 0 ∧ offsetIn matchBlock r < 0x20 := by
  cases r <;> decide

theorem windowBlock_lookup (w : WindowWord) :
    windowBlock.lookup (offsetIn windowBlock w) = some w
      ∧ offsetIn windowBlock w % 4 = 0 ∧ offsetIn windowBlock w < 0x1C := by
  cases w <;> decide

theorem upBlock_offset : ∀ p ∈ upBlock, p.1 = offsetIn upBlock p.2 := by decide
theorem downBlock_offset : ∀ p ∈ downBlock, p.1 = offsetIn downBlock p.2 := by decide
theorem matchBlock_offset : ∀ p ∈ matchBlock, p.1 = offsetIn matchBlock p.2 := by decide
theorem windowBlock_offset : ∀ p ∈ windowBlock, p.1 = offsetIn windowBlock p.2 := by decide

/-! ### The offset of a register -/

/-- The offset of a word in an active entry view (section 11.3). -/
def ViewWord.offset : ViewWord → Nat
  | .configured w => offsetIn windowBlock w
  | .hits => 0x1C
  | .commitStatus => 0x20

/-- The offset of a register in the aperture (section 11.5). -/
def Reg.offset : Reg → Nat
  | .up x r => 0x200 + 0x80 * x.code + offsetIn upBlock r
  | .down n r => 0x400 + 0x80 * n.code + offsetIn downBlock r
  | .matchUnit .a r => 0x800 + offsetIn matchBlock r
  | .matchUnit .b r => 0x820 + offsetIn matchBlock r
  | .head w => 0x880 + 4 * w.val
  | .staging i w => 0x1000 + 0x20 * i.val + offsetIn windowBlock w
  | .control i => 0x1000 + 0x20 * i.val + 0x1C
  | .activeView i w => 0x1400 + 0x40 * i.val + w.offset
  | .ottView t w => 0x2000 + 0x10 * t.val + 4 * w.val
  | r => offsetIn globalMap r

theorem ViewWord.offset_aligned (w : ViewWord) : w.offset % 4 = 0 ∧ w.offset < 0x40 := by
  cases w with
  | configured w =>
    obtain ⟨-, haligned, hlt⟩ := windowBlock_lookup w
    exact ⟨haligned, hlt.trans (by decide)⟩
  | hits => decide
  | commitStatus => decide

theorem Reg.offset_aligned (reg : Reg) : reg.offset % 4 = 0 ∧ reg.offset < 0x2800 := by
  cases reg with
  | up x r =>
    have hx := x.code_lt
    obtain ⟨-, haligned, hlt⟩ := upBlock_lookup r
    simp only [Reg.offset]
    omega
  | down n r =>
    have hn := n.code_lt
    obtain ⟨-, haligned, hlt⟩ := downBlock_lookup r
    simp only [Reg.offset]
    omega
  | matchUnit u r =>
    obtain ⟨-, haligned, hlt⟩ := matchBlock_lookup r
    cases u <;> simp only [Reg.offset] <;> omega
  | head w =>
    simp only [Reg.offset]
    omega
  | staging i w =>
    obtain ⟨-, haligned, hlt⟩ := windowBlock_lookup w
    simp only [Reg.offset]
    omega
  | control i =>
    simp only [Reg.offset]
    omega
  | activeView i w =>
    obtain ⟨haligned, hlt⟩ := w.offset_aligned
    simp only [Reg.offset]
    omega
  | ottView t w =>
    simp only [Reg.offset]
    omega
  | _ => decide

/-! ### What the map holds at an offset -/

theorem DPort.getD_ofCode_code {k : Nat} (h : k < 4) : ((DPort.ofCode k).getD .d0).code = k := by
  interval_cases k <;> rfl

theorem regAt_up (x : UPort) {k : Nat} (hk : k < 0x80) :
    regAt (0x200 + 0x80 * x.code + k) = (upBlock.lookup k).map (.up x) := by
  have hx := x.code_lt
  have hplace : (0x200 + 0x80 * x.code + k - 0x200) % 0x80 = k := by omega
  have hport : (if 0x200 + 0x80 * x.code + k < 0x280 then UPort.u0 else .u1) = x := by
    cases x with
    | u0 => exact if_pos (by rw [UPort.code]; omega)
    | u1 => exact if_neg (by rw [UPort.code]; omega)
  rw [regAt, if_pos (by omega), hplace, hport]

theorem regAt_down (n : DPort) {k : Nat} (hk : k < 0x80) :
    regAt (0x400 + 0x80 * n.code + k) = (downBlock.lookup k).map (.down n) := by
  have hn := n.code_lt
  have hplace : (0x400 + 0x80 * n.code + k - 0x400) % 0x80 = k := by omega
  have hport : (0x400 + 0x80 * n.code + k - 0x400) / 0x80 = n.code := by omega
  rw [regAt, if_neg (by omega), if_pos (by omega), hplace, hport, DPort.ofCode_code, Option.getD_some]

theorem regAt_staging (i : Fin 16) {k : Nat} (hk : k < 0x20) :
    regAt (0x1000 + 0x20 * i.val + k) =
      if k = 0x1C then some (.control i) else (windowBlock.lookup k).map (.staging i) := by
  have hplace : (0x1000 + 0x20 * i.val + k) % 0x20 = k := by omega
  have hindex : (0x1000 + 0x20 * i.val + k - 0x1000) / 0x20 = i.val := by omega
  rw [regAt, if_neg (by omega), if_neg (by omega), if_neg (by omega), if_neg (by omega), if_neg (by omega),
    if_pos (by omega), hplace, hindex, Fin.ofNat_val_eq_self]

theorem regAt_view (i : Fin 16) {k : Nat} (hk : k < 0x40) :
    regAt (0x1400 + 0x40 * i.val + k) =
      if k = 0x1C then some (.activeView i .hits)
      else if k = 0x20 then some (.activeView i .commitStatus)
      else (windowBlock.lookup k).map fun w => .activeView i (.configured w) := by
  have hplace : (0x1400 + 0x40 * i.val + k) % 0x40 = k := by omega
  have hindex : (0x1400 + 0x40 * i.val + k - 0x1400) / 0x40 = i.val := by omega
  rw [regAt, if_neg (by omega), if_neg (by omega), if_neg (by omega), if_neg (by omega), if_neg (by omega),
    if_neg (by omega), if_pos (by omega), hplace, hindex, Fin.ofNat_val_eq_self]

theorem regAt_head (w : Fin 8) : regAt (0x880 + 4 * w.val) = some (.head w) := by
  have hindex : (0x880 + 4 * w.val - 0x880) / 4 = w.val := by omega
  rw [regAt, if_neg (by omega), if_neg (by omega), if_neg (by omega), if_neg (by omega), if_pos (by omega),
    if_pos (by omega), hindex, Fin.ofNat_val_eq_self]

theorem regAt_ottView (t : Fin 128) (w : Fin 4) : regAt (0x2000 + 0x10 * t.val + 4 * w.val) = some (.ottView t w) := by
  have hentry : (0x2000 + 0x10 * t.val + 4 * w.val - 0x2000) / 0x10 = t.val := by omega
  have hword : (0x2000 + 0x10 * t.val + 4 * w.val) % 0x10 / 4 = w.val := by omega
  rw [regAt, if_neg (by omega), if_neg (by omega), if_neg (by omega), if_neg (by omega), if_neg (by omega),
    if_neg (by omega), if_neg (by omega), if_pos (by omega), if_pos (by omega), hentry, hword,
    Fin.ofNat_val_eq_self, Fin.ofNat_val_eq_self]

theorem regAt_offset (reg : Reg) : regAt reg.offset = some reg := by
  cases reg with
  | up x r =>
    obtain ⟨hfound, -, hlt⟩ := upBlock_lookup r
    rw [Reg.offset, regAt_up x hlt, hfound, Option.map_some]
  | down n r =>
    obtain ⟨hfound, -, hlt⟩ := downBlock_lookup r
    rw [Reg.offset, regAt_down n hlt, hfound, Option.map_some]
  | matchUnit u r => cases u <;> cases r <;> decide
  | head w => exact regAt_head w
  | staging i w =>
    obtain ⟨hfound, -, hlt⟩ := windowBlock_lookup w
    rw [Reg.offset, regAt_staging i (by omega), if_neg (by omega), hfound, Option.map_some]
  | control i => exact (regAt_staging i (by decide)).trans (if_pos rfl)
  | activeView i w =>
    cases w with
    | configured w =>
      obtain ⟨hfound, -, hlt⟩ := windowBlock_lookup w
      rw [Reg.offset, ViewWord.offset, regAt_view i (by omega), if_neg (by omega), if_neg (by omega), hfound,
        Option.map_some]
    | hits => exact (regAt_view i (by decide)).trans (if_pos rfl)
    | commitStatus => exact (regAt_view i (by decide)).trans ((if_neg (by decide)).trans (if_pos rfl))
  | ottView t w => exact regAt_ottView t w
  | _ => rfl

/-- A register that stands once is listed at its offset. -/
theorem globalMap_offset : ∀ p ∈ globalMap, p.1 = p.2.offset := by decide

/-- What a block lists at k stands k above the block's start. -/
theorem offset_of_map_lookup {α : Type} [BEq α] {block : List (Nat × α)}
    (hblock : ∀ p ∈ block, p.1 = offsetIn block p.2) {f : α → Reg} {start : Nat}
    (hf : ∀ r, (f r).offset = start + offsetIn block r) {k : Nat} {reg : Reg}
    (h : (block.lookup k).map f = some reg) : reg.offset = start + k := by
  obtain ⟨r, hr, rfl⟩ := Option.map_eq_some_iff.mp h
  rw [hf, ← hblock (k, r) (mem_of_lookup_eq_some hr)]

/-- The map finds a register at its offset alone: block by block, in the order in which the map looks. -/
theorem offset_of_regAt {a : Nat} {reg : Reg} (h : regAt a = some reg) : reg.offset = a := by
  rw [regAt] at h
  obtain ⟨hrange, h⟩ | ⟨-, h⟩ := ite_eq_iff.mp h
  · have hoffset := offset_of_map_lookup upBlock_offset (fun _ => rfl) h
    split at hoffset <;> simp only [UPort.code] at hoffset <;> omega
  obtain ⟨hrange, h⟩ | ⟨-, h⟩ := ite_eq_iff.mp h
  · have hoffset := offset_of_map_lookup downBlock_offset (fun _ => rfl) h
    rw [DPort.getD_ofCode_code (by omega)] at hoffset
    omega
  obtain ⟨hrange, h⟩ | ⟨-, h⟩ := ite_eq_iff.mp h
  · have hoffset := offset_of_map_lookup matchBlock_offset (fun _ => rfl) h
    omega
  obtain ⟨hrange, h⟩ | ⟨-, h⟩ := ite_eq_iff.mp h
  · have hoffset := offset_of_map_lookup matchBlock_offset (fun _ => rfl) h
    omega
  obtain ⟨hrange, h⟩ | ⟨-, h⟩ := ite_eq_iff.mp h
  · obtain ⟨haligned, h⟩ := Option.ite_none_right_eq_some.mp h
    cases h
    simp only [Reg.offset, Fin.val_ofNat]
    omega
  obtain ⟨hrange, h⟩ | ⟨-, h⟩ := ite_eq_iff.mp h
  · obtain ⟨hcontrol, h⟩ | ⟨-, h⟩ := ite_eq_iff.mp h
    · cases h
      simp only [Reg.offset, Fin.val_ofNat]
      omega
    · have hoffset := offset_of_map_lookup windowBlock_offset (fun _ => rfl) h
      rw [Fin.val_ofNat] at hoffset
      omega
  obtain ⟨hrange, h⟩ | ⟨-, h⟩ := ite_eq_iff.mp h
  · obtain ⟨hhits, h⟩ | ⟨-, h⟩ := ite_eq_iff.mp h
    · cases h
      simp only [Reg.offset, ViewWord.offset, Fin.val_ofNat]
      omega
    obtain ⟨hstatus, h⟩ | ⟨-, h⟩ := ite_eq_iff.mp h
    · cases h
      simp only [Reg.offset, ViewWord.offset, Fin.val_ofNat]
      omega
    · have hoffset := offset_of_map_lookup windowBlock_offset (fun _ => rfl) h
      rw [Fin.val_ofNat] at hoffset
      omega
  obtain ⟨hrange, h⟩ | ⟨-, h⟩ := ite_eq_iff.mp h
  · obtain ⟨haligned, h⟩ := Option.ite_none_right_eq_some.mp h
    cases h
    simp only [Reg.offset, Fin.val_ofNat]
    omega
  · exact (globalMap_offset (a, reg) (mem_of_lookup_eq_some h)).symm

/-- Settles O51: the map and `Reg.offset` undo each other. -/
theorem registerMapIsOneToOne : Obligations.RegisterMapIsOneToOne := by
  refine ⟨fun a b reg ha hb => ?_, fun a reg ha => ?_, fun reg => ⟨reg.offset, regAt_offset reg⟩⟩
  · rw [← offset_of_regAt ha, offset_of_regAt hb]
  · rw [← offset_of_regAt ha]
    exact reg.offset_aligned

end Sys2Proof
end

section
/-! PROOFS. One step of the block: the two equations of `step`, one for each shape of the queue of commands (logs 2, 3). -/

namespace Sys2Proof.Machine

theorem step_of_pending_cons {s : State} {c : Instr} {rest : List Instr} (h : s.pending = c :: rest) :
    step s = exec c { s with pending := rest } := by
  simp only [step, h]

theorem step_of_pending_nil {s : State} (h : s.pending = []) : step s = .next s := by
  simp only [step, h]

/-- Settles O1: the two equations of `step`, the first at a state whose queue is given. -/
theorem stepRunsTheFrontCommand : Obligations.StepRunsTheFrontCommand :=
  ⟨fun _ _ _ => step_of_pending_cons rfl, fun _ => step_of_pending_nil⟩

end Sys2Proof.Machine
end
